-- ==== Sys2Proof/Word.lean ====
section
/-! DEFINITION. The word types of the Cresjo 4808: what the manual adds, shifts, masks or sends as bits. -/

namespace Sys2Proof

/-- A byte of a frame (11: every KSP field is made of whole bytes). -/
abbrev Byte := BitVec 8

/-- A 48-bit time: the local counter LC, house time, a stamp, and the signed 48-bit offsets of R2, modulo 2^48. -/
abbrev Time := BitVec 48

/-- A 16-bit sequence, compared in the circle (00_scope.md section 5.2). -/
abbrev Seq := BitVec 16

/-- A node ID, room group or broadcast address (00_scope.md section 5.4). -/
abbrev NodeId := BitVec 16

/-- A sample word of a cell (R67). -/
abbrev Word := BitVec 32

end Sys2Proof
end

