-- ==== Sys2Proof/Config.lean ====
section
/-! DEFINITION. What the part fixes (capacities and intervals the rules name) and the free values: bytes the manual
sends without stating them. A free value has no body, so nothing can be proved of it. -/

namespace Sys2Proof.Config

/-- Intake buffers (R26). -/
def intakeBuffers : Nat := 4
/-- Bytes one intake buffer stores, and where a select's received length stops (R28). -/
def bufferBytes : Nat := 1536
def receivedMax : Nat := 65535
/-- Smallest and largest frame in bytes (R29). -/
def minFrame : Nat := 20
def maxFrame : Nat := 1460
/-- The two opening bytes (R194). -/
def writeOpening : Byte := 0xA5
def readOpening : Byte := 0x5A
/-- Cells in the pool and words in a cell (R67). -/
def cellCount : Nat := 1024
def cellWords : Nat := 128
/-- Slot records in the pool (R72). -/
def slotCount : Nat := 256
/-- Places in the report queue (R160) and in a relay queue (R144). -/
def reportPlaces : Nat := 8
def relayPlaces : Nat := 32
/-- Payload bytes a reply may hold (R171). -/
def replyBytes : Nat := 1440
/-- Where a counter stops (00_scope.md section 5.3). -/
def counterMax : Nat := 4294967295
/-- Ticks in a millisecond and in a second (00_scope.md section 5.1). -/
def ticksPerMs : Nat := 24576
def ticksPerSecond : Nat := 24576000
/-- Ticks in one unit of the gap timeout, 100 ms (R3). -/
def gapUnit : Nat := 2457600
/-- The interval at which the lines are sampled (R188). -/
def samplingInterval : Nat := 3072
/-- The qualification interval of the link (R149). -/
def qualification : Nat := 24576
/-- The interval between PRESENCE notices (R185). -/
def presenceInterval : Nat := 49152000
/-- Ticks of a bit cell of the satellite line, and the ticks it may be held still in a reception (R198). -/
def cellTicks : Nat := 2
def stillTicks : Nat := 4

/-- FREE VALUE (DESIGN CHOICE, log 16): the channel byte sent in a CHANNEL_STATUS record formed at an LC for a source that
is absent; R195 says only that it is ignored. The number names the place of the byte among the record's sixteen sources. -/
opaque absentSourceChannel : Time → Nat → Byte

/-- FREE VALUE (DESIGN CHOICE, log 17): a byte of the STREAM_STATUS record of an IDLE stream, formed at an LC, that R66
says has no meaning. The number is the byte's place in the record. -/
opaque idleRecordByte : Time → Nat → Byte

end Sys2Proof.Config
end

