-- ==== Sys2Proof/Syntax.lean ====
section
/-! DEFINITION. The commands: one constructor of `Instr` per row of spec/opcode_table.json, and the shapes of their
operands. The operands of an item row are the fields of the item's body (R195) behind the header fields the Directive
Unit reads from its directive (DESIGN CHOICE, log 3). -/

namespace Sys2Proof

/-- The header fields of a DIRECTIVE that its reply uses (R170, R172). -/
structure DirHeader where
  /-- The directive's class, which the reply repeats. -/
  cls : BitVec 3
  /-- The reply-wanted flag. -/
  replyWanted : Bool
  /-- The directive's source node: the reply's destination. -/
  source : NodeId
  /-- The directive's tag: the reply's sequence. -/
  tag : Seq
deriving DecidableEq, Repr

/-- One reader record of R106: the primary or overlay reader of a channel, or the virtual reader of a stream. -/
inductive ReaderId where
  | primary (c : Fin 8)
  | overlay (c : Fin 8)
  | virtual (s : Fin 8)
deriving DecidableEq, Repr

/-- The body of LOAD_STREAM (R44, R195), each field as wide as in the frame. -/
structure LoadParams where
  index : Byte
  key : BitVec 16
  rate : BitVec 32
  channels : Byte
  n : BitVec 16
  depth : Byte
  quota : BitVec 16
  g : Byte
  flags : Byte
  prio : Byte
  tol : BitVec 16
  /-- Milliseconds. -/
  horizon : BitVec 16
deriving DecidableEq, Repr

/-- A source as an item carries it: a stream-index byte, 0xFF for absent, and a stream-channel byte (R195). -/
structure SourceBytes where
  stream : Byte
  chan : Byte
deriving DecidableEq, Repr

/-- One request of a QUERY (R167, R195): record type, argument, and the byte whose bit 0 is the clear flag. -/
structure QueryRequest where
  type : Byte
  arg : Byte
  flags : Byte
deriving DecidableEq, Repr

/-- The body of SET_QUEUES (R147, R195). -/
structure QueueParams where
  count : Byte
  map : Vector Byte 8
  types : Vector Byte 4
  weights : Vector Byte 4
deriving DecidableEq, Repr

/-- One bit cell of the satellite line (R198): whether it has a transition at its start, and one at mid-cell. -/
structure LineCell where
  start : Bool
  mid : Bool
deriving DecidableEq, Repr

/-- A reception on the satellite line (R198): the ticks since the line's last transition at the start of the frame's first cell,
and the line's cells from that cell on. -/
structure Reception where
  still : Nat
  cells : List LineCell
deriving DecidableEq, Repr

/-- The twenty-three directive items of R165, each with the fields of its body (R195). -/
inductive Item where
  | assignNode (serial : BitVec 48) (node : NodeId) (groups : List NodeId)
  | setReporting (dest : NodeId) (mask : BitVec 16)
  | setTimeSource (source : NodeId) (allowance : BitVec 32) (gap : Byte) (holdover : BitVec 16)
  | setRegen (ms : BitVec 16)
  | loadStream (p : LoadParams)
  | openStream (index : Byte)
  | closeStream (index : Byte)
  | unloadStream (index : Byte)
  | mapChannel (chan : Byte) (primary overlay : SourceBytes) (gP gO duck : BitVec 16)
  | setGain (mask : BitVec 8) (gP gO duck : BitVec 16)
  | setMute (mask : BitVec 8) (setting : Byte)
  | setLanes (rate l0 l1 l2 l3 : BitVec 32)
  | setMode (mode : Byte)
  | setClassMap (prios : Vector Byte 8)
  | setSourceEntry (index : Byte) (node : NodeId) (prio : Byte)
  | setPriorityWeights (stream cls source : Byte)
  | setQueues (p : QueueParams)
  | setRelayMargin (ms : Byte)
  | setStore (mark : BitVec 16)
  | setLines (mask mode compare forceMask wake : Byte)
  | clearAttention (partMask : BitVec 16) (index : Byte) (streamMask : Byte)
  | query (reqs : List QueryRequest)
  | reset
deriving DecidableEq, Repr

/-- The commands of the part: spec/opcode_table.json, row by row. -/
inductive Instr where
  /-- RESET_N asserted, or supply start (R183). -/
  | powerOnReset
  /-- PP_SEL asserted (R25). -/
  | selectAssertion
  /-- The opening byte decodes as WRITE (R27). -/
  | writeSelect
  /-- The opening byte decodes as READ (R39). -/
  | readSelect
  /-- The opening byte is `b`, neither WRITE nor READ (R25). -/
  | badOpening (b : Byte)
  /-- PP_SEL deasserted before the opening byte is complete (R25). -/
  | earlyDeassertion
  /-- PP_SEL deasserted at the end of a write select in which `bytes` were shifted in complete; `ragged` when a byte
  was left incomplete (R28, R29). -/
  | writeSelectEnd (bytes : List Byte) (ragged : Bool)
  /-- PP_SEL deasserted at the end of a read select in which `shifted` bytes, the two count bytes among them, were
  shifted out in full (R39, R40). -/
  | readSelectEnd (shifted : Nat)
  /-- Dispatch hands on the head of the intake list (R31). -/
  | dispatch
  /-- Admission takes the AUDIO frame handed to it (R75). -/
  | audioAdmission
  /-- Parity admission takes the PARITY frame handed to it (R91). -/
  | parityAdmission
  /-- The recovery unit takes the head request (R99). -/
  | recoveryStart
  /-- The recovery operation completes (R103). -/
  | recoveryCompletion
  /-- The Time Lock Unit takes the BEAT handed to it (R6). -/
  | takingABeat
  /-- The gap interval expires (R17). -/
  | gapExpiry
  /-- The holdover limit is reached (R18). -/
  | holdoverExpiry
  /-- A reader takes its output period (R110). -/
  | readerPeriod (r : ReaderId)
  /-- A channel takes its output period (R134). -/
  | channelPeriod (c : Fin 8)
  /-- A changed lane rate takes effect (R139). -/
  | laneRateChange
  | assignNode (h : DirHeader) (serial : BitVec 48) (node : NodeId) (groups : List NodeId)
  | setReporting (h : DirHeader) (dest : NodeId) (mask : BitVec 16)
  | setTimeSource (h : DirHeader) (source : NodeId) (allowance : BitVec 32) (gap : Byte) (holdover : BitVec 16)
  | setRegen (h : DirHeader) (ms : BitVec 16)
  | loadStream (h : DirHeader) (p : LoadParams)
  | openStream (h : DirHeader) (index : Byte)
  | closeStream (h : DirHeader) (index : Byte)
  | unloadStream (h : DirHeader) (index : Byte)
  | mapChannel (h : DirHeader) (chan : Byte) (primary overlay : SourceBytes) (gP gO duck : BitVec 16)
  | setGain (h : DirHeader) (mask : BitVec 8) (gP gO duck : BitVec 16)
  | setMute (h : DirHeader) (mask : BitVec 8) (setting : Byte)
  | setLanes (h : DirHeader) (rate l0 l1 l2 l3 : BitVec 32)
  | setMode (h : DirHeader) (mode : Byte)
  | setClassMap (h : DirHeader) (prios : Vector Byte 8)
  | setSourceEntry (h : DirHeader) (index : Byte) (node : NodeId) (prio : Byte)
  | setPriorityWeights (h : DirHeader) (stream cls source : Byte)
  | setQueues (h : DirHeader) (p : QueueParams)
  | setRelayMargin (h : DirHeader) (ms : Byte)
  | setStore (h : DirHeader) (mark : BitVec 16)
  | setLines (h : DirHeader) (mask mode compare forceMask wake : Byte)
  | clearAttention (h : DirHeader) (partMask : BitVec 16) (index : Byte) (streamMask : Byte)
  | query (h : DirHeader) (reqs : List QueryRequest)
  | reset (h : DirHeader)
  /-- The Relay Unit takes the DIRECTIVE handed to it (R36). -/
  | directiveRelayCopy
  /-- SAT_DET rises (R149). -/
  | satDetRise
  /-- The qualification interval ends (R149). -/
  | qualificationExpiry
  /-- SAT_DET falls (R149). -/
  | satDetFall
  /-- The arbiter makes a selection (R151). -/
  | selection
  /-- The transmission ends (R154). -/
  | transmissionEnd
  /-- The regeneration timer expires (R155). -/
  | regenerationTimerExpiry
  /-- A reception on the satellite line ends (R156, R198). -/
  | satelliteFrameReceived (rx : Reception)
  /-- The presence timer expires (R185). -/
  | presenceTimerExpiry
  /-- The Line Monitor samples the four lines; bit n of `levels` is LINE_n, 1 high (R188). -/
  | lineSampling (levels : BitVec 4)
  /-- The Directive Unit takes the DIRECTIVE handed to it (R161). -/
  | directiveTaken
deriving DecidableEq, Repr

end Sys2Proof
end

