-- ==== Sys2Proof/Decode.lean ====
section
/-! DEFINITION. The decoder over the rows of spec/opcode_table.json that give bits. No row gives bits (98_reader.md:
n_rows_with_fixed 0, n_rows_with_fields 0), so no word spells a command (DESIGN CHOICE, log 5). -/

namespace Sys2Proof

/-- The command an `nbits`-bit word spells by the table's bits: none, for no row has any (DESIGN CHOICE, log 5). -/
def decodeTableWord (_nbits _w : Nat) : Option Instr := none

end Sys2Proof
end

