-- ==== Sys2Proof/Machine/State.lean ====
section
/-! DEFINITION. Every piece of state the manual gives the part, as plain data, and the part right after a POWER-ON
reset. Where a field's value at reset is the model's and not the manual's, its docstring names the log entry. -/

namespace Sys2Proof.Machine

/-- Why a command stops the machine with a fault. No command of this part does: bad input is refused, counted and
dropped by the rule that judges it, and the machine goes on (INVENTORY.md, Faults). -/
inductive Fault where
deriving DecidableEq, Repr

/-- Why the model has no meaning for a command. -/
inductive Refusal where
  /-- Raised by an arm of `exec` whose command has no meaning in the model yet; safe. No arm raises it. -/
  | notModelled (mnemonic : String)
deriving DecidableEq, Repr

/-! ## Time Lock Unit -/

/-- The time states of R2, in the order of their codes (R196). -/
inductive TimeState where
  | unlocked | acquiring | settling | locked | holdover
deriving DecidableEq, Repr

/-- The Time Lock Unit (R2). Offsets are 48-bit values read as signed. -/
structure Tlu where
  timeState : TimeState
  source : NodeId
  /-- Signed ticks. -/
  allowance : Int
  /-- Ticks. -/
  gapTimeout : Nat
  /-- Ticks. -/
  holdoverLimit : Nat
  epoch : Option (BitVec 8)
  /-- Raw offsets in arrival order. -/
  window : List Time
  /-- Arrival instant of the newest raw offset. -/
  windowNewest : Option Time
  /-- O_c. -/
  oc : Time
  /-- LC_c. -/
  lcc : Time
  /-- R, in units of 2^-24. -/
  rate : Int
  mPrev : Option Time
  strikes : Nat
  lockCount : Nat
  lastError : Time
  /-- Arrival instant and sequence of the last used beat. -/
  lastBeat : Option (Time × Seq)
  holdoverStart : Option Time
  regenEpoch : BitVec 8
  regenSeq : BitVec 16
deriving DecidableEq, Repr

/-! ## Packet Port and Dispatch -/

/-- A frame waiting in the intake list, with its arrival instant (R26). -/
structure InFrame where
  bytes : List Byte
  arrival : Time
deriving DecidableEq, Repr

/-- The select in progress (R25). -/
inductive Select where
  /-- None is recognised (R41). -/
  | idle
  /-- PP_SEL is asserted and the opening byte is not complete. -/
  | opening (arrival : Time)
  /-- A write select that claimed a buffer, now FILLING (R27). -/
  | write (arrival : Time)
  /-- A write select refused INTAKE_FULL: its bytes are discarded (R27). -/
  | refused
  /-- A read select and the frame it fixed, none when the queue was empty (R39). -/
  | read (frame : Option (List Byte))
  /-- An unknown opening byte (R25). -/
  | void
deriving DecidableEq, Repr

/-- A block that has still to take the head frame (R32). -/
inductive Consumer where
  | admission | parity | timeLock | relay | directives
deriving DecidableEq, Repr

/-- The Packet Port and Dispatch (R26, R31). -/
structure Port where
  select : Select
  /-- WAITING frames, oldest first. -/
  intake : List InFrame
  /-- Consumers that have still to take the head frame; empty when it is not handed on (DEDUCED, log 4). -/
  handed : List Consumer
deriving DecidableEq, Repr

/-! ## Streams, slots and parity holders -/

/-- The stream states of R43, in the order of their codes (R196). -/
inductive StreamState where
  | idle | loaded | listening | primed | playing | draining | ended
deriving DecidableEq, Repr

/-- The segment a slot or reader is in (R73, R106). -/
inductive Segment where
  | current | pending
deriving DecidableEq, Repr

/-- The slot states of R73, in the order of their codes (R196). -/
inductive SlotState where
  | empty | filled | recovering | recovered | missed
deriving DecidableEq, Repr

/-- A slot record (R73). -/
structure Slot where
  state : SlotState
  seq : Seq
  seg : Segment
  /-- Extended index within its segment (R49). -/
  idx : Nat
  /-- Numbers of the cells it holds, in order. -/
  cells : List Nat
deriving DecidableEq, Repr

/-- An EMPTY slot: no other field has a meaning (R73). -/
def Slot.vacant : Slot := ⟨.empty, 0, .current, 0, []⟩

/-- The anchor of the current segment, with the base sequence and base position that are present exactly with it
(R43, R74). -/
structure Anchor where
  a : Time
  b : Seq
  eBase : Nat
  base : Seq
  pBase : Nat
deriving DecidableEq, Repr

/-- The pending anchor A', b' (R57). -/
structure PendingAnchor where
  a : Time
  b : Seq
deriving DecidableEq, Repr

/-- The parity frame a holder keeps (R90). -/
structure ParityHolder where
  first : Seq
  g : Nat
  cells : List Nat
deriving DecidableEq, Repr

/-- Where a reader stands (R106): its segment, last position q in 1/256 sample, and frame index. -/
structure ReaderPos where
  seg : Segment
  last : Option Nat
  frame : Option Nat
deriving DecidableEq, Repr

/-- A reader that starts afresh (R106, R107). -/
def ReaderPos.fresh : ReaderPos := ⟨.current, none, none⟩

/-- A stream record (R43) with its ring, parity holder and virtual reader. -/
structure Stream where
  state : StreamState
  key : BitVec 16
  /-- Sample rate in Hz. -/
  fs : Nat
  channels : Nat
  /-- Samples per channel in a frame. -/
  n : Nat
  depth : Nat
  quota : Nat
  /-- Parity group size, 0 for off. -/
  g : Nat
  localPlay : Bool
  relay : Bool
  prio : Nat
  /-- Stamp tolerance in ticks. -/
  tol : Nat
  /-- Admission horizon in ticks. -/
  horizon : Nat
  /-- The slots reserved to the stream, by ring position (R72); which slots of the pool they are is not observable
  (DESIGN CHOICE, log 10). -/
  ring : List Slot
  anchor : Option Anchor
  pendingAnchor : Option PendingAnchor
  breakSeq : Option Seq
  secondBreak : Option Seq
  endSeq : Option Seq
  mismatchRun : Nat
  missedRun : Nat
  holder : Option ParityHolder
  virt : ReaderPos
  /-- The 39 counters of R65, R105 and R121, in the order of their tables. -/
  counters : Vector Nat 39
  /-- The attention set of R64, bits as R195 numbers them. -/
  attention : BitVec 5
deriving DecidableEq, Repr

/-- An IDLE record. Its parameters have no meaning; the model holds zeros (DESIGN CHOICE, log 31). -/
def Stream.idle : Stream where
  state := .idle
  key := 0
  fs := 0
  channels := 0
  n := 0
  depth := 0
  quota := 0
  g := 0
  localPlay := false
  relay := false
  prio := 0
  tol := 0
  horizon := 0
  ring := []
  anchor := none
  pendingAnchor := none
  breakSeq := none
  secondBreak := none
  endSeq := none
  mismatchRun := 0
  missedRun := 0
  holder := none
  virt := .fresh
  counters := Vector.replicate 39 0
  attention := 0

/-- A stream counter: R65's table, then R105's, then R121's. -/
inductive StreamCounter where
  | accepted | closed | afterEnd | notLocked | sizeMismatch | late | ahead | segmentLimit | duplicate | stampMismatch
  | early | quota | storeFull | anchors | reanchors | starvations | flushes | switches | rebases | breaksIgnored
  | missedSlots
  | parityAccepted | parityNotAnchored | parityNoParity | paritySizeMismatch | parityLate | parityAhead | parityAfterEnd
  | parityQuota | parityStoreFull | groupComplete | parityReplaced | parityExpired | recoveryRequests | recoveryNoStore
  | recovered | recoveryDiscarded
  | concealedRepeat | concealedSilence
deriving DecidableEq, Repr

/-- A stream attention code, in the order of its bits (R64, R195). -/
inductive StreamCode where
  | loss | starved | ended | reanchored | flushed
deriving DecidableEq, Repr

/-! ## The cell pool and the recovery operation -/

/-- A cell with a nonzero holder count (R67). -/
structure Cell where
  /-- The cell's number, 0 .. 1023. -/
  id : Nat
  holders : Nat
  owner : Option (Fin 8)
  words : List Word
deriving DecidableEq, Repr

/-- The cell pool (R67, R71): the held cells in rising order of number. Every cell not listed is on the free list; its
contents cannot be read and are not held (DESIGN CHOICE, log 9). -/
structure Pool where
  held : List Cell
  leastFree : Nat
  lowWater : Nat
deriving DecidableEq, Repr

/-- The recovery operation in flight (R90, R100). -/
structure RecoveryOp where
  /-- None once the stream is unloaded (R48). -/
  stream : Option (Fin 8)
  target : Seq
  /-- Ring position of the target slot. -/
  position : Nat
  operands : List Seq
  /-- N × channels. -/
  nWords : Nat
  parityCells : List Nat
  outCells : List Nat
  start : Time
  /-- Ticks from start to completion. -/
  duration : Nat
deriving DecidableEq, Repr

/-! ## Channels and lanes -/

/-- A channel's source (R106). -/
structure Source where
  stream : Fin 8
  chan : Fin 8
deriving DecidableEq, Repr

/-- A channel record (R127) with the state of its two readers (R106). -/
structure Channel where
  primarySrc : Option Source
  overlaySrc : Option Source
  gP : Nat
  gO : Nat
  duck : Nat
  mute : Bool
  forceMute : Bool
  eP : Nat
  eO : Nat
  clip : Nat
  primaryPos : ReaderPos
  overlayPos : ReaderPos
deriving DecidableEq, Repr

/-- A channel record after either reset (R127). -/
def Channel.afterReset : Channel :=
  ⟨none, none, 0, 0, 16384, false, false, 0, 0, 0, .fresh, .fresh⟩

/-- The samples of one lane frame, one per channel, and the instant it begins (R136). -/
structure LaneFrame where
  start : Time
  samples : Vector Int 8
deriving DecidableEq, Repr

/-- An output period being worked (R110, R134). -/
structure OutputPeriod where
  /-- LC_edge. -/
  edge : Time
  /-- The readers yet to be taken, each with the stream and the stream channel that its source named at the edge. -/
  readersDue : List (ReaderId × Fin 8 × Fin 8)
  channelsDue : List (Fin 8)
  /-- Samples the primary and overlay readers have handed; 0 from a reader that is not taken. -/
  yP : Vector Int 8
  yO : Vector Int 8
deriving DecidableEq, Repr

/-- The lanes (R136, R139). -/
structure Lanes where
  /-- The lane rate in force. -/
  rate : Nat
  /-- A rate that SET_LANES has set and the instant it takes effect. -/
  rateChange : Option (Nat × Time)
  latency : Vector Nat 4
  /-- Lane frames mixed and not yet begun. -/
  queued : List LaneFrame
  /-- The lane frame on the lanes. -/
  current : LaneFrame
  period : Option OutputPeriod
deriving DecidableEq, Repr

/-! ## Relay Unit -/

/-- What a relay entry stands for (R144). -/
inductive EntryKind where
  | audio | parity | directive
deriving DecidableEq, Repr

/-- A relay entry (R144). -/
structure RelayEntry where
  kind : EntryKind
  stream : Option (Fin 8)
  /-- The 16 header bytes of an AUDIO or PARITY frame; empty for a DIRECTIVE. -/
  header : List Byte
  stamp : Time
  length : Nat
  cells : List Nat
deriving DecidableEq, Repr

/-- A relay queue with its settings (R143). -/
structure RelayQueue where
  entries : List RelayEntry
  weighted : Bool
  weight : Nat
  deficit : Nat
deriving DecidableEq, Repr

/-- The transmission in progress (R143, R154): an entry, or a regenerated beat when `entry` is absent. -/
structure Transmission where
  entry : Option RelayEntry
  start : Time
  length : Nat
  /-- The frame as it is sent. -/
  frame : List Byte
deriving DecidableEq, Repr

/-- The link states of R149; `qualifying` holds the instant at which its interval ends. -/
inductive LinkState where
  | down
  | qualifying (due : Time)
  | up
deriving DecidableEq, Repr

/-- The Relay Unit (R143) and the level of SAT_DET (R149). -/
structure Relay where
  classMap : Vector Nat 8
  sources : Vector (Option (NodeId × Nat)) 16
  wStream : Nat
  wClass : Nat
  wSource : Nat
  count : Nat
  map : Vector (Fin 4) 8
  queues : Vector RelayQueue 4
  pointer : Fin 4
  tx : Option Transmission
  /-- Ticks. -/
  margin : Nat
  /-- Ticks; 0 is off. -/
  interval : Nat
  timer : Option Time
  beatPending : Bool
  link : LinkState
  satDet : Bool
  /-- The LC from which the cells of the satellite line are counted back to back: the start of the last transmission, and 0
  before the first (R198; DESIGN CHOICE, log 25). -/
  cellOrigin : Time
  /-- Reference cycles since the link last became UP, or since the reset: a reception that lasts longer began before it, and
  is not taken (R156; DESIGN CHOICE, log 24). Read only while the link is UP. -/
  upFor : Nat
deriving DecidableEq, Repr

/-! ## Directive Unit, identity, Line Monitor -/

/-- A part attention code, in the order of its bits (R174, R195). -/
inductive PartCode where
  | timeLost | timeStepped | timeRestart | storeLow | line | clip | relayDrop | reportDrop | intakeDrop
deriving DecidableEq, Repr

/-- The Directive Unit (R160). -/
structure DirectiveUnit where
  /-- Complete frames, oldest first. -/
  reportQueue : List (List Byte)
  attention : BitVec 9
  noticeDest : NodeId
  noticeMask : BitVec 14
  noticeCount : BitVec 16
  /-- Whether the event in progress has gathered a code (R177); false between events (DESIGN CHOICE, log 28). -/
  gathered : Bool
deriving DecidableEq, Repr

/-- The reset-cause record's cause (R183). -/
inductive ResetCause where
  | powerOn | directed
deriving DecidableEq, Repr

/-- The operating mode (R187). -/
inductive Mode where
  | standby | active
deriving DecidableEq, Repr

/-- Identity and mode (R183, R187). -/
structure Identity where
  /-- Fixed at manufacture; the manual gives no value (DESIGN CHOICE, log 6). -/
  serial : BitVec 48
  node : NodeId
  groups : List NodeId
  resetCause : ResetCause
  directedResets : Nat
  presenceTimer : Option Time
  mode : Mode
deriving DecidableEq, Repr

/-- The Line Monitor's detection mode (R188). -/
inductive Detect where
  | event | pattern
deriving DecidableEq, Repr

/-- The Line Monitor (R188). A level is true for high. -/
structure LineMonitor where
  last : Vector (Option Bool) 4
  accepted : Vector (Option Bool) 4
  /-- A set bit is an unmasked line. -/
  mask : BitVec 4
  detect : Detect
  compare : BitVec 4
  forceMask : BitVec 8
  wake : Bool
  capture : Option (BitVec 4)
  matchHolds : Bool
  nextSample : Time
deriving DecidableEq, Repr

/-- A part counter, clip counters apart: R23's table, R42's, UNKNOWN_KEY, PARITY_UNKNOWN_KEY, R158's, R179's,
LINE_EVENTS and LINE_WAKES, in the order of the COUNTERS record (R196). -/
inductive PartCounter where
  | beatsUsed | beatsForeign | beatsMalformed | epochRestarts | windowCloses | stepStrikes | steps | holdovers
  | timeLosses | beatsRegenerated
  | framesIn | framesQueued | refusedIntakeFull | refusedLength | refusedCheck | refusedBadHeader | badOpenings
  | wrongDirection | directivesTaken | directivesPassed | directivesUnaddressed | framesOut
  | unknownKey | parityUnknownKey
  | relayCopies | relayLinkDown | relayDrop | relayStale | relaySent | relayLinkDiscards | regenReplaced | linkUps
  | linkDowns | satRxForwarded | satRxBad | satRxWrongKind
  | directivesCompleted | directivesFailed | itemsApplied | itemsSkipped | itemsUnassigned | repliesQueued
  | noticesQueued | reportDrop
  | lineEvents | lineWakes
deriving DecidableEq, Repr

/-! ## The part -/

/-- The whole state of the part. -/
structure State where
  /-- The local counter (R1). -/
  lc : Time
  /-- The first reference cycle after the reset is still to come (DEDUCED, log 7). -/
  firstCycle : Bool
  tlu : Tlu
  port : Port
  streams : Vector Stream 8
  pool : Pool
  /-- The recovery request list, oldest first (R90). -/
  requests : List (Fin 8)
  recovery : Option RecoveryOp
  channels : Vector Channel 8
  lanes : Lanes
  relay : Relay
  du : DirectiveUnit
  ident : Identity
  lines : LineMonitor
  /-- The 46 part counters, in `PartCounter`'s order. -/
  counters : Vector Nat 46
  /-- The commands that are waiting, first in, first out. -/
  pending : List Instr
deriving DecidableEq, Repr

/-- The Time Lock Unit after either reset (R2). -/
def Tlu.afterReset : Tlu where
  timeState := .unlocked
  source := 0
  allowance := 0
  gapTimeout := 49152000
  holdoverLimit := 1474560000
  epoch := none
  window := []
  windowNewest := none
  oc := 0
  lcc := 0
  rate := 0
  mPrev := none
  strikes := 0
  lockCount := 0
  lastError := 0
  lastBeat := none
  holdoverStart := none
  regenEpoch := 0
  regenSeq := 0

/-- The port after either reset (R26, R41). -/
def Port.afterReset : Port := ⟨.idle, [], []⟩

/-- The pool after either reset (R67, R71). -/
def Pool.afterReset : Pool := ⟨[], 1024, 64⟩

/-- The lanes after either reset (R140): zeros from LC 0. -/
def Lanes.afterReset : Lanes :=
  ⟨48000, none, Vector.replicate 4 0, [], ⟨0, Vector.replicate 8 0⟩, none⟩

/-- A relay queue after either reset (R143). -/
def RelayQueue.afterReset : RelayQueue := ⟨[], false, 1, 0⟩

/-- The Relay Unit after either reset (R143); SAT_DET is an input and keeps its level (DESIGN CHOICE, log 8). -/
def Relay.afterReset (satDet : Bool) : Relay where
  classMap := #v[0, 1, 2, 3, 4, 5, 6, 7]
  sources := Vector.replicate 16 none
  wStream := 0
  wClass := 1
  wSource := 0
  count := 4
  map := #v[0, 0, 1, 1, 2, 2, 3, 3]
  queues := Vector.replicate 4 .afterReset
  pointer := 0
  tx := none
  margin := 49152
  interval := 6144000
  timer := none
  beatPending := false
  link := .down
  satDet := satDet
  cellOrigin := 0
  upFor := 0

/-- The Directive Unit after either reset (R160). -/
def DirectiveUnit.afterReset : DirectiveUnit := ⟨[], 0, 0xFFFF, 0x3FFF, 0, false⟩

/-- The identity after a POWER-ON reset (R183, R187); the serial is the part's own. -/
def Identity.afterPowerOn (serial : BitVec 48) : Identity :=
  ⟨serial, 0, [], .powerOn, 0, some 0, .standby⟩

/-- The Line Monitor after either reset (R188). -/
def LineMonitor.afterReset : LineMonitor :=
  ⟨Vector.replicate 4 none, Vector.replicate 4 none, 0, .event, 0, 0, false, none, false, 0⟩

/-- The part after a reset, given the identity the reset leaves, the level of SAT_DET and the commands waiting.
Both kinds of reset give every other block the same values (R2, R26, R43, R67, R72, R90, R106, R127, R140, R143, R160,
R188). -/
def State.afterReset (ident : Identity) (satDet : Bool) (pending : List Instr) : State where
  lc := 0
  firstCycle := true
  tlu := .afterReset
  port := .afterReset
  streams := Vector.replicate 8 .idle
  pool := .afterReset
  requests := []
  recovery := none
  channels := Vector.replicate 8 .afterReset
  lanes := .afterReset
  relay := .afterReset satDet
  du := .afterReset
  ident := ident
  lines := .afterReset
  counters := Vector.replicate 46 0
  pending := pending

/-- The part right after a POWER-ON reset: serial 0 and SAT_DET low (DESIGN CHOICE, log 6, 8), no
command waiting. -/
def State.reset : State := State.afterReset (.afterPowerOn 0) false []

end Sys2Proof.Machine
end

