-- ==== Sys2Proof/Machine/Arith.lean ====
section
/-! DEFINITION. The arithmetic of the manual's conventions: signed differences of 48-bit times, sequences in the circle,
the named roundings, saturating counters, and updates of small tables (00_scope.md section 5). -/

namespace Sys2Proof.Machine

/-- signed48(a - b) (00_scope.md section 5.1). -/
def signed48 (a b : Time) : Int := (a - b).toInt

/-- (now - start) mod 2^48, a count of ticks. -/
def ticksSince (now start : Time) : Nat := (now - start).toNat

/-- The instant `n` ticks after `t`. -/
def timeAfter (t : Time) (n : Nat) : Time := t + BitVec.ofNat 48 n

/-- Whether an instant has been reached: `now` is it or comes after it. -/
def reached (now due : Time) : Bool := decide (0 ≤ signed48 now due)

/-- An exact integer taken modulo 2^48. -/
def time48 (i : Int) : Time := BitVec.ofInt 48 i

/-- Division rounded toward zero. -/
def truncDiv (n : Int) (d : Nat) : Int := Int.tdiv n d

/-- Division rounded toward minus infinity. -/
def floorDiv (n : Int) (d : Nat) : Int := Int.fdiv n d

/-- Division rounded to the nearest integer, a half going away from zero. -/
def roundHalfAway (n : Int) (d : Nat) : Int :=
  if 0 ≤ n then ((2 * n.natAbs + d) / (2 * d) : Nat) else -((2 * n.natAbs + d) / (2 * d) : Nat)

/-- clamp(x, lo, hi) on integers. -/
def clampInt (x lo hi : Int) : Int := if x < lo then lo else if hi < x then hi else x

/-- clamp(x, lo, hi) on natural numbers. -/
def clampNat (x lo hi : Nat) : Nat := if x < lo then lo else if hi < x then hi else x

/-- Division rounded up. -/
def ceilDiv (n d : Nat) : Nat := (n + d - 1) / d

/-- s follows t: (s - t) mod 2^16 lies in 1 .. 32767 (00_scope.md section 5.2). -/
def seqFollows (s t : Seq) : Bool := decide (1 ≤ (s - t).toNat) && decide ((s - t).toNat ≤ 32767)

/-- s precedes t: t follows s. -/
def seqPrecedes (s t : Seq) : Bool := seqFollows t s

/-- s follows an optional sequence that is present. -/
def seqFollowsOpt (s : Seq) (t : Option Seq) : Bool :=
  match t with
  | none => false
  | some t => seqFollows s t

/-- One count of a saturating counter (00_scope.md section 5.3). -/
def satInc (n : Nat) : Nat := if n < Config.counterMax then n + 1 else n

/-- A value applied to each of eight entries. -/
def map8 {α β : Type} (f : α → β) (v : Vector α 8) : Vector β 8 :=
  #v[f v[0], f v[1], f v[2], f v[3], f v[4], f v[5], f v[6], f v[7]]

/-- A value applied to each of four entries. -/
def map4 {α β : Type} (f : α → β) (v : Vector α 4) : Vector β 4 := #v[f v[0], f v[1], f v[2], f v[3]]

/-- Eight entries by index. -/
def tab8 {α : Type} (f : Fin 8 → α) : Vector α 8 := #v[f 0, f 1, f 2, f 3, f 4, f 5, f 6, f 7]

/-- Four entries by index. -/
def tab4 {α : Type} (f : Fin 4 → α) : Vector α 4 := #v[f 0, f 1, f 2, f 3]

/-- The eight stream or channel numbers, in order. -/
def eight : List (Fin 8) := [0, 1, 2, 3, 4, 5, 6, 7]

/-- The four line, lane or queue numbers, in order. -/
def four : List (Fin 4) := [0, 1, 2, 3]

/-- An index byte as one of eight, when it is below 8. -/
def index8 (b : Byte) : Option (Fin 8) := if h : b.toNat < 8 then some ⟨b.toNat, h⟩ else none

/-- Bit `i` of a byte mask (R195: in a channel mask, bit c is channel c). -/
def maskBit {w : Nat} (m : BitVec w) (i : Nat) : Bool := m.getLsbD i

/-- One stream record. -/
def State.stream (s : State) (i : Fin 8) : Stream := s.streams[i]

/-- One stream record replaced. -/
def State.setStream (s : State) (i : Fin 8) (st : Stream) : State := { s with streams := s.streams.set i st }

/-- One channel record. -/
def State.channel (s : State) (c : Fin 8) : Channel := s.channels[c]

/-- One channel record replaced. -/
def State.setChannel (s : State) (c : Fin 8) (ch : Channel) : State := { s with channels := s.channels.set c ch }

/-- One relay queue. -/
def Relay.queue (r : Relay) (q : Fin 4) : RelayQueue := r.queues[q]

/-- One relay queue replaced. -/
def Relay.setQueue (r : Relay) (q : Fin 4) (rq : RelayQueue) : Relay := { r with queues := r.queues.set q rq }

end Sys2Proof.Machine
end

