-- ==== Sys2Proof/Machine/Flags.lean ====
section
/-! DEFINITION. Counters and attention codes: counting an event (R23, R42, R65, R105, R121, R158, R179) and raising a code
(R174), with the gathering of R177. -/

namespace Sys2Proof.Machine

/-- The place of a part counter in the COUNTERS record (R196). -/
def PartCounter.idx : PartCounter → Fin 46
  | .beatsUsed => 0 | .beatsForeign => 1 | .beatsMalformed => 2 | .epochRestarts => 3 | .windowCloses => 4
  | .stepStrikes => 5 | .steps => 6 | .holdovers => 7 | .timeLosses => 8 | .beatsRegenerated => 9
  | .framesIn => 10 | .framesQueued => 11 | .refusedIntakeFull => 12 | .refusedLength => 13 | .refusedCheck => 14
  | .refusedBadHeader => 15 | .badOpenings => 16 | .wrongDirection => 17 | .directivesTaken => 18
  | .directivesPassed => 19 | .directivesUnaddressed => 20 | .framesOut => 21
  | .unknownKey => 22 | .parityUnknownKey => 23
  | .relayCopies => 24 | .relayLinkDown => 25 | .relayDrop => 26 | .relayStale => 27 | .relaySent => 28
  | .relayLinkDiscards => 29 | .regenReplaced => 30 | .linkUps => 31 | .linkDowns => 32 | .satRxForwarded => 33
  | .satRxBad => 34 | .satRxWrongKind => 35
  | .directivesCompleted => 36 | .directivesFailed => 37 | .itemsApplied => 38 | .itemsSkipped => 39
  | .itemsUnassigned => 40 | .repliesQueued => 41 | .noticesQueued => 42 | .reportDrop => 43
  | .lineEvents => 44 | .lineWakes => 45

/-- The place of a stream counter in the COUNTERS record (R196). -/
def StreamCounter.idx : StreamCounter → Fin 39
  | .accepted => 0 | .closed => 1 | .afterEnd => 2 | .notLocked => 3 | .sizeMismatch => 4 | .late => 5 | .ahead => 6
  | .segmentLimit => 7 | .duplicate => 8 | .stampMismatch => 9 | .early => 10 | .quota => 11 | .storeFull => 12
  | .anchors => 13 | .reanchors => 14 | .starvations => 15 | .flushes => 16 | .switches => 17 | .rebases => 18
  | .breaksIgnored => 19 | .missedSlots => 20
  | .parityAccepted => 21 | .parityNotAnchored => 22 | .parityNoParity => 23 | .paritySizeMismatch => 24
  | .parityLate => 25 | .parityAhead => 26 | .parityAfterEnd => 27 | .parityQuota => 28 | .parityStoreFull => 29
  | .groupComplete => 30 | .parityReplaced => 31 | .parityExpired => 32 | .recoveryRequests => 33
  | .recoveryNoStore => 34 | .recovered => 35 | .recoveryDiscarded => 36
  | .concealedRepeat => 37 | .concealedSilence => 38

/-- The bit of a part code (R195). -/
def PartCode.bit : PartCode → Nat
  | .timeLost => 0 | .timeStepped => 1 | .timeRestart => 2 | .storeLow => 3 | .line => 4 | .clip => 5
  | .relayDrop => 6 | .reportDrop => 7 | .intakeDrop => 8

/-- The bit of a stream code (R195); its enable is 9 places higher in the notice mask. -/
def StreamCode.bit : StreamCode → Nat
  | .loss => 0 | .starved => 1 | .ended => 2 | .reanchored => 3 | .flushed => 4

/-- The value of a part counter. -/
def State.partCount (s : State) (c : PartCounter) : Nat := s.counters[c.idx]

/-- A part counter counts once. -/
def State.bump (c : PartCounter) (s : State) : State :=
  { s with counters := s.counters.set c.idx (satInc (s.partCount c)) }

/-- The value of a stream's counter. -/
def Stream.count (st : Stream) (c : StreamCounter) : Nat := st.counters[c.idx]

/-- A stream's counter counts once. -/
def State.bumpStream (i : Fin 8) (c : StreamCounter) (s : State) : State :=
  s.setStream i { s.stream i with
    counters := (s.stream i).counters.set c.idx (satInc ((s.stream i).count c)) }

/-- Whether a part code is set. -/
def State.partSet (s : State) (c : PartCode) : Bool := s.du.attention.getLsbD c.bit

/-- Whether a code that goes from clear to set is gathered: its enable, bit `e` of the notice mask, is set and the node
is assigned (R177). -/
def State.gathers (s : State) (e : Nat) : Bool := s.du.noticeMask.getLsbD e && s.ident.node != 0

/-- A block raises a part code (R174, R177). A raising of REPORT_DROP gathers nothing. -/
def State.raisePart (c : PartCode) (s : State) : State :=
  if s.partSet c then s
  else { s with du := { s.du with
    attention := s.du.attention ||| (1#9 <<< c.bit)
    gathered := s.du.gathered || (c != .reportDrop && s.gathers c.bit) } }

/-- Whether a stream code is set. -/
def Stream.codeSet (st : Stream) (c : StreamCode) : Bool := st.attention.getLsbD c.bit

/-- A block raises a code of one stream (R64, R174, R177). -/
def State.raiseStream (i : Fin 8) (c : StreamCode) (s : State) : State :=
  if (s.stream i).codeSet c then s
  else
    let s' := s.setStream i { s.stream i with attention := (s.stream i).attention ||| (1#5 <<< c.bit) }
    { s' with du := { s'.du with gathered := s'.du.gathered || s'.gathers (9 + c.bit) } }

end Sys2Proof.Machine
end

