-- ==== Sys2Proof/Machine/Ops.lean ====
section
/-! DEFINITION. The cell pool's operations (R67 to R70): allocation, hold, release and detachment, over the list of held
cells in rising order of number; and what the pool answers (free count, charge, contents). -/

namespace Sys2Proof.Machine

/-- Whether the held cells are in the pool's canonical form from number `lo` on: numbers rising strictly from `lo`, below
1024, each with holder count 1 or 2 (R67). -/
def wfCells (lo : Nat) : List Cell → Bool
  | [] => true
  | c :: cs => decide (lo ≤ c.id) && decide (c.id < Config.cellCount) && decide (1 ≤ c.holders) && decide (c.holders ≤ 2)
      && wfCells (c.id + 1) cs

/-- The pool's canonical form (R67). -/
def Pool.wf (p : Pool) : Bool := wfCells 0 p.held

/-- The free count (R67). -/
def Pool.free (p : Pool) : Nat := Config.cellCount - p.held.length

/-- The store is low while the free count is below the low-water mark (R71). -/
def Pool.low (p : Pool) : Bool := decide (p.free < p.lowWater)

/-- A stream's cells charged: the cells whose owner it is (R70). -/
def Pool.charged (p : Pool) (i : Fin 8) : Nat := p.held.countP (fun c => c.owner == some i)

/-- The words of a cell; none for a cell that is free. -/
def Pool.words (p : Pool) (id : Nat) : List Word :=
  match p.held.find? (fun c => c.id == id) with
  | some c => c.words
  | none => []

/-- The words of a cell list, in order. -/
def Pool.wordsOf (p : Pool) (ids : List Nat) : List Word := ids.flatMap p.words

/-- Word `j` of a cell list: word j mod 128 of its ⌊j / 128⌋-th cell (R83). -/
def Pool.wordAt (p : Pool) (ids : List Nat) (j : Nat) : Word :=
  (p.words (ids.getD (j / Config.cellWords) Config.cellCount)).getD (j % Config.cellWords) 0

/-- The first free cell from number `next` on joins the held cells with holder count 1; its number, and the held cells
after. Which free cell is taken has no observable effect (R67, DESIGN CHOICE, log 9). -/
def takeFree (owner : Option (Fin 8)) (ws : List Word) : Nat → List Cell → Nat × List Cell
  | next, [] => (next, [⟨next, 1, owner, ws⟩])
  | next, c :: cs =>
    if c.id = next then
      let r := takeFree owner ws (next + 1) cs
      (r.1, c :: r.2)
    else (next, ⟨next, 1, owner, ws⟩ :: c :: cs)

/-- One hold added to a cell (R69, Hold). -/
def holdCell (id : Nat) : List Cell → List Cell
  | [] => []
  | c :: cs => if c.id = id then { c with holders := c.holders + 1 } :: cs else c :: holdCell id cs

/-- One hold of a cell given up; at 0 the cell returns to the free list (R69, Release). -/
def releaseCell (id : Nat) : List Cell → List Cell
  | [] => []
  | c :: cs =>
    if c.id = id then
      if c.holders ≤ 1 then cs else { c with holders := c.holders - 1 } :: cs
    else c :: releaseCell id cs

/-- The words of a cell replaced. -/
def writeCell (id : Nat) (ws : List Word) : List Cell → List Cell
  | [] => []
  | c :: cs => if c.id = id then { c with words := ws } :: cs else c :: writeCell id ws cs

/-- The first 128 of a list of words, followed by words of 0 up to 128 (R68). -/
def cellOf (ws : List Word) : List Word :=
  ws.take Config.cellWords ++ List.replicate (Config.cellWords - (ws.take Config.cellWords).length) 0

/-- A frame's words laid out in `k` cells (R83). -/
def cellsOf (ws : List Word) : Nat → List (List Word)
  | 0 => []
  | k + 1 => cellOf ws :: cellsOf (ws.drop Config.cellWords) k

/-- One cell allocated for each list of words (R68): the numbers taken, in order, and the pool after. -/
def Pool.alloc (owner : Option (Fin 8)) : List (List Word) → Pool → List Nat × Pool
  | [], p => ([], p)
  | ws :: rest, p =>
    let t := takeFree owner ws 0 p.held
    let p' : Pool := { p with held := t.2 }
    let r := Pool.alloc owner rest { p' with leastFree := min p'.leastFree p'.free }
    (t.1 :: r.1, r.2)

/-- Holds added to the cells of a list (R69). -/
def Pool.hold (ids : List Nat) (p : Pool) : Pool := { p with held := ids.foldl (fun h id => holdCell id h) p.held }

/-- Holds of the cells of a list given up (R69). -/
def Pool.release (ids : List Nat) (p : Pool) : Pool := { p with held := ids.foldl (fun h id => releaseCell id h) p.held }

/-- The cells of a stream lose their owner (R48, R70). -/
def Pool.detach (i : Fin 8) (p : Pool) : Pool :=
  { p with held := p.held.map (fun c => if c.owner == some i then { c with owner := none } else c) }

/-- The cells of a list written with a frame's words (R101). -/
def Pool.write (p : Pool) : List Nat → List Word → Pool
  | [], _ => p
  | id :: ids, ws =>
    Pool.write { p with held := writeCell id (cellOf ws) p.held } ids (ws.drop Config.cellWords)

/-- An allocation for one new holder (R68), with STORE_LOW raised when it leaves the store low (R71). -/
def State.alloc (owner : Option (Fin 8)) (cells : List (List Word)) (s : State) : List Nat × State :=
  let r := s.pool.alloc owner cells
  let s' := { s with pool := r.2 }
  (r.1, if r.2.low then s'.raisePart .storeLow else s')

/-- Holds added to cells. -/
def State.hold (ids : List Nat) (s : State) : State := { s with pool := s.pool.hold ids }

/-- Holds of cells given up. -/
def State.release (ids : List Nat) (s : State) : State := { s with pool := s.pool.release ids }

/-- The quota test of R68 and R82: the cells charged and the cells asked for stay within the quota. -/
def State.quotaAllows (s : State) (i : Fin 8) (k : Nat) : Bool :=
  decide (s.pool.charged i + k ≤ (s.stream i).quota)

/-- The pool test of R68 and R82. -/
def State.poolAllows (s : State) (k : Nat) : Bool := decide (k ≤ s.pool.free)

end Sys2Proof.Machine
end

