-- ==== Sys2Proof/Machine/Operands.lean ====
section
/-! DEFINITION. Reading and writing bytes: little-endian fields, the KSP header and CRC (R194), the checks of R29 and R30,
sample words (R83), the packing of a directive (R86), and the items of a directive (R161, R195). -/

namespace Sys2Proof.Machine

/-! ## Bytes -/

/-- The value of bytes, least significant first. -/
def leNat : List Byte → Nat
  | [] => 0
  | b :: bs => b.toNat + 256 * leNat bs

/-- `n` bytes of a value, least significant first. -/
def leBytes : Nat → Nat → List Byte
  | 0, _ => []
  | n + 1, v => BitVec.ofNat 8 (v % 256) :: leBytes n (v / 256)

/-- `n` bytes of a signed value in two's complement, least significant first. -/
def leInt (n : Nat) (v : Int) : List Byte := leBytes n (v % (256 ^ n : Nat)).toNat

/-- The value of `n` bytes at offset `off`. -/
def field (bs : List Byte) (off n : Nat) : Nat := leNat ((bs.drop off).take n)

/-- The byte at an offset. -/
def byteAt (bs : List Byte) (off : Nat) : Byte := bs.getD off 0

/-! ## The CRC of R194 -/

/-- One bit of the reflected CRC-32. -/
def crcBit (c : BitVec 32) : BitVec 32 := if c.getLsbD 0 then (c >>> 1) ^^^ 0xEDB88320#32 else c >>> 1

/-- One byte of the reflected CRC-32, least significant bit first. -/
def crcByte (c : BitVec 32) (b : Byte) : BitVec 32 :=
  crcBit (crcBit (crcBit (crcBit (crcBit (crcBit (crcBit (crcBit (c ^^^ b.setWidth 32))))))))

/-- The KSP CRC-32 of bytes in order. -/
def crc32 (bs : List Byte) : BitVec 32 := bs.foldl crcByte 0xFFFFFFFF#32 ^^^ 0xFFFFFFFF#32

/-- The trailer that closes bytes, least significant byte first. -/
def crcTrailer (bs : List Byte) : List Byte := leBytes 4 (crc32 bs).toNat

/-- Bytes closed by their trailer. -/
def closed (bs : List Byte) : List Byte := bs ++ crcTrailer bs

/-! ## The header (11.1) -/

/-- The frame kinds, by their codes. -/
inductive Kind where
  | audio | parity | beat | directive | report | notice
deriving DecidableEq, Repr

/-- The kind code of a header: bits 3..0 of byte 0. -/
def kindCode (bs : List Byte) : Nat := (byteAt bs 0).toNat % 16

/-- The kind of a header; none when its code is no kind (R30). -/
def frameKind (bs : List Byte) : Option Kind :=
  match kindCode bs with
  | 1 => some .audio
  | 2 => some .parity
  | 3 => some .beat
  | 4 => some .directive
  | 5 => some .report
  | 6 => some .notice
  | _ => none

/-- The version: bits 7..4 of byte 0. -/
def frameVersion (bs : List Byte) : Nat := (byteAt bs 0).toNat / 16

/-- The class: bits 2..0 of byte 1. -/
def frameClass (bs : List Byte) : BitVec 3 := (byteAt bs 1).extractLsb' 0 3

/-- The continuity of an AUDIO header: bits 4..3 of byte 1. -/
def frameContinuity (bs : List Byte) : Nat := (byteAt bs 1).toNat / 8 % 4

/-- The reply-wanted flag of a DIRECTIVE header: bit 5 of byte 1. -/
def frameReplyWanted (bs : List Byte) : Bool := (byteAt bs 1).getLsbD 5

/-- The group size G of a PARITY header: bits 7..5 of byte 1 hold G - 1. -/
def frameGroup (bs : List Byte) : Nat := (byteAt bs 1).toNat / 32 + 1

/-- The key or destination: bytes 2 - 3. -/
def frameKey (bs : List Byte) : BitVec 16 := BitVec.ofNat 16 (field bs 2 2)

/-- The epoch of a BEAT: byte 2. -/
def frameEpoch (bs : List Byte) : BitVec 8 := byteAt bs 2

/-- The source node: bytes 4 - 5. -/
def frameSource (bs : List Byte) : NodeId := BitVec.ofNat 16 (field bs 4 2)

/-- The sequence or tag: bytes 6 - 7. -/
def frameSeq (bs : List Byte) : Seq := BitVec.ofNat 16 (field bs 6 2)

/-- The stamp: bytes 8 - 13. -/
def frameStamp (bs : List Byte) : Time := BitVec.ofNat 48 (field bs 8 6)

/-- The payload length field: bytes 14 - 15. -/
def framePayloadLength (bs : List Byte) : Nat := field bs 14 2

/-- The payload: the bytes between the header and the trailer. -/
def framePayload (bs : List Byte) : List Byte := (bs.drop 16).take (bs.length - 20)

/-- A frame the part forms (R194): the header, the payload and the trailer. -/
def buildFrame (kind : Nat) (byte1 : Byte) (key : BitVec 16) (source : NodeId) (seq : Seq) (stamp : Time)
    (payload : List Byte) : List Byte :=
  closed ([BitVec.ofNat 8 (kind + 16), byte1] ++ leBytes 2 key.toNat ++ leBytes 2 source.toNat ++ leBytes 2 seq.toNat
    ++ leBytes 6 stamp.toNat ++ leBytes 2 payload.length ++ payload)

/-! ## What a write select shifts in (R28) -/

/-- The bytes a FILLING buffer stores and the select's received length (R28). -/
structure Filling where
  stored : List Byte
  received : Nat
deriving DecidableEq, Repr

/-- One complete byte shifted in: stored while fewer than 1536 have come, counted up to 65,535 (R28). -/
def Filling.shiftIn (f : Filling) (b : Byte) : Filling where
  stored := if f.received < Config.bufferBytes then f.stored ++ [b] else f.stored
  received := if f.received < Config.receivedMax then f.received + 1 else f.received

/-- The buffer and the received length once these bytes have been shifted in (R28); `Filling.of_append` says that it is
`shiftIn` byte by byte. -/
def Filling.of (bytes : List Byte) : Filling := ⟨bytes.take Config.bufferBytes, min bytes.length Config.receivedMax⟩

/-! ## The checks of R29 and R30 -/

/-- What a frame is refused with at the end of its write (R29). -/
inductive FrameFault where
  | length | check | badHeader
deriving DecidableEq, Repr

/-- Header validation (R30): kind, version, and the continuity of an AUDIO frame. -/
def headerPasses (bs : List Byte) : Bool :=
  match frameKind bs with
  | none => false
  | some k => decide (frameVersion bs = 1) && (k != .audio || decide (frameContinuity bs ≤ 2))

/-- The ordered tests of R29; none when the frame passes. -/
def frameFault (f : Filling) (ragged : Bool) : Option FrameFault :=
  if ragged || decide (f.received < Config.minFrame) || decide (Config.maxFrame < f.received) then some .length
  else if crcTrailer (f.stored.take (f.received - 4)) != f.stored.drop (f.received - 4) then some .check
  else if framePayloadLength f.stored != f.received - 20 then some .length
  else if headerPasses f.stored then none
  else some .badHeader

/-! ## Samples and packed directives -/

/-- The words of a payload: each three bytes a 24-bit value, sign-extended (R83, R94). -/
def payloadWords : List Byte → List Word
  | a :: b :: c :: rest => (c ++ b ++ a : BitVec 24).signExtend 32 :: payloadWords rest
  | _ => []

/-- The three low bytes of a word, least significant first (R154). -/
def wordSample (w : Word) : List Byte := [w.extractLsb' 0 8, w.extractLsb' 8 8, w.extractLsb' 16 8]

/-- Bytes packed four to a word, a last group short of four filled with 0 (R86; the order within a word has no
observable effect, DESIGN CHOICE, log 30). -/
def packWords : List Byte → List Word
  | [] => []
  | [a] => [(0#24 ++ a : BitVec 32)]
  | [a, b] => [(0#16 ++ b ++ a : BitVec 32)]
  | [a, b, c] => [(0#8 ++ c ++ b ++ a : BitVec 32)]
  | a :: b :: c :: d :: rest => (d ++ c ++ b ++ a : BitVec 32) :: packWords rest

/-- The four bytes of a word, in the order `packWords` gave them. -/
def unpackWord (w : Word) : List Byte :=
  [w.extractLsb' 0 8, w.extractLsb' 8 8, w.extractLsb' 16 8, w.extractLsb' 24 8]

/-! ## Directive items (R161, R195) -/

/-- Result codes (R164), in the order of their numbers (R196). -/
inductive ResultCode where
  | ok | badItem | badLength | badIndex | badValue | wrongState | keyInUse | noSlots | unassigned | duplicateSource
deriving DecidableEq, Repr

/-- The number of a result code (R196). -/
def ResultCode.code : ResultCode → Nat
  | .ok => 0 | .badItem => 1 | .badLength => 2 | .badIndex => 3 | .badValue => 4 | .wrongState => 5 | .keyInUse => 6
  | .noSlots => 7 | .unassigned => 8 | .duplicateSource => 9

/-- What reading one item of a payload gives: an item, or the result of the test among 1 to 4 of R161 that failed. -/
inductive ReadItem where
  | item (it : Item)
  | bad (r : ResultCode)
deriving DecidableEq, Repr

/-- The body lengths test 4 of R161 permits for a code; none for a code that is no item (R195). -/
def lengthPermitted (code len : Nat) : Option Bool :=
  match code with
  | 1 => some (len == 8 || len == 10 || len == 12 || len == 14 || len == 16)
  | 2 => some (len == 4)
  | 3 => some (len == 9)
  | 4 => some (len == 2)
  | 5 => some (len == 20)
  | 6 => some (len == 1)
  | 7 => some (len == 1)
  | 8 => some (len == 1)
  | 9 => some (len == 11)
  | 10 => some (len == 7)
  | 11 => some (len == 2)
  | 12 => some (len == 20)
  | 13 => some (len == 1)
  | 14 => some (len == 8)
  | 15 => some (len == 4)
  | 16 => some (len == 3)
  | 17 => some (len == 17)
  | 18 => some (len == 1)
  | 19 => some (len == 2)
  | 20 => some (len == 5)
  | 21 => some (len == 4)
  | 22 => some (decide (3 ≤ len) && decide (len ≤ 255) && len % 3 == 0)
  | 23 => some (len == 0)
  | _ => none

/-- The 16-bit values of a run of byte pairs. -/
def pairs16 : List Byte → List (BitVec 16)
  | a :: b :: rest => (b ++ a : BitVec 16) :: pairs16 rest
  | _ => []

/-- The requests of a QUERY body. -/
def requests3 : List Byte → List QueryRequest
  | t :: a :: f :: rest => ⟨t, a, f⟩ :: requests3 rest
  | _ => []

/-- A 16-bit and a 32-bit field of a body. -/
def body16 (b : List Byte) (off : Nat) : BitVec 16 := BitVec.ofNat 16 (field b off 2)
def body32 (b : List Byte) (off : Nat) : BitVec 32 := BitVec.ofNat 32 (field b off 4)

/-- The item of a code with a body of a permitted length (R195). -/
def itemOf (code : Nat) (b : List Byte) : Option Item :=
  match code with
  | 1 => some (.assignNode (BitVec.ofNat 48 (field b 0 6)) (body16 b 6) (pairs16 (b.drop 8)))
  | 2 => some (.setReporting (body16 b 0) (body16 b 2))
  | 3 => some (.setTimeSource (body16 b 0) (body32 b 2) (byteAt b 6) (body16 b 7))
  | 4 => some (.setRegen (body16 b 0))
  | 5 => some (.loadStream
      { index := byteAt b 0, key := body16 b 1, rate := body32 b 3, channels := byteAt b 7, n := body16 b 8
        depth := byteAt b 10, quota := body16 b 11, g := byteAt b 13, flags := byteAt b 14, prio := byteAt b 15
        tol := body16 b 16, horizon := body16 b 18 })
  | 6 => some (.openStream (byteAt b 0))
  | 7 => some (.closeStream (byteAt b 0))
  | 8 => some (.unloadStream (byteAt b 0))
  | 9 => some (.mapChannel (byteAt b 0) ⟨byteAt b 1, byteAt b 2⟩ ⟨byteAt b 3, byteAt b 4⟩ (body16 b 5) (body16 b 7)
      (body16 b 9))
  | 10 => some (.setGain (byteAt b 0) (body16 b 1) (body16 b 3) (body16 b 5))
  | 11 => some (.setMute (byteAt b 0) (byteAt b 1))
  | 12 => some (.setLanes (body32 b 0) (body32 b 4) (body32 b 8) (body32 b 12) (body32 b 16))
  | 13 => some (.setMode (byteAt b 0))
  | 14 => some (.setClassMap (tab8 (fun i => byteAt b i.val)))
  | 15 => some (.setSourceEntry (byteAt b 0) (body16 b 1) (byteAt b 3))
  | 16 => some (.setPriorityWeights (byteAt b 0) (byteAt b 1) (byteAt b 2))
  | 17 => some (.setQueues
      { count := byteAt b 0, map := tab8 (fun i => byteAt b (1 + i.val)), types := tab4 (fun i => byteAt b (9 + i.val))
        weights := tab4 (fun i => byteAt b (13 + i.val)) })
  | 18 => some (.setRelayMargin (byteAt b 0))
  | 19 => some (.setStore (body16 b 0))
  | 20 => some (.setLines (byteAt b 0) (byteAt b 1) (byteAt b 2) (byteAt b 3) (byteAt b 4))
  | 21 => some (.clearAttention (body16 b 0) (byteAt b 2) (byteAt b 3))
  | 22 => some (.query (requests3 b))
  | 23 => some .reset
  | _ => none

/-- Tests 1 to 4 of R161 on the item at the front of the bytes left, and those that follow it. -/
def readItem (bs : List Byte) : ReadItem × List Byte :=
  match bs with
  | code :: len :: rest =>
    if rest.length < len.toNat then (.bad .badLength, [])
    else
      match lengthPermitted code.toNat len.toNat with
      | none => (.bad .badItem, [])
      | some false => (.bad .badLength, [])
      | some true =>
        match itemOf code.toNat (rest.take len.toNat) with
        | none => (.bad .badItem, [])
        | some it => (.item it, rest.drop len.toNat)
  | _ => (.bad .badLength, [])

/-- The items a count announces, read in order up to the first that fails a test among 1 to 4 of R161. -/
def readItems : Nat → List Byte → List ReadItem
  | 0, _ => []
  | n + 1, bs =>
    match readItem bs with
    | (.bad r, _) => [.bad r]
    | (.item it, rest) => .item it :: readItems n rest

/-- The items of a DIRECTIVE payload: an item count and the items; a payload of length 0 has a count of 0 (R161). -/
def payloadItems (payload : List Byte) : List ReadItem :=
  match payload with
  | [] => []
  | count :: rest => readItems count.toNat rest

end Sys2Proof.Machine
end

