-- ==== Sys2Proof/Machine/Rings.lean ====
section
/-! DEFINITION. A stream's ring, window and extended indices (R49, R73, R74), the emptying of slots (R88), the parity holder
and its request (R96 to R98), readers starting afresh, and the flush (R60, R61). -/

namespace Sys2Proof.Machine

/-! ## Windows and indices -/

/-- Cells per frame k (R43). -/
def Stream.k (st : Stream) : Nat := ceilDiv (st.n * st.channels) Config.cellWords

/-- Words in a frame: N × channels. -/
def Stream.frameWords (st : Stream) : Nat := st.n * st.channels

/-- Whether the stream is PRIMED, PLAYING or DRAINING. -/
def Stream.running (st : Stream) : Bool :=
  match st.state with
  | .primed | .playing | .draining => true
  | .idle | .loaded | .listening | .ended => false

/-- Whether a sequence lies in the window that begins at `base` (R74). -/
def inWindow (depth : Nat) (base s : Seq) : Bool := decide ((s - base).toNat < depth)

/-- The ring position of a sequence of the window (R74). -/
def Anchor.position (an : Anchor) (depth : Nat) (s : Seq) : Nat := (an.pBase + (s - an.base).toNat) % depth

/-- The slot at a ring position. -/
def Stream.slotAt (st : Stream) (p : Nat) : Slot := st.ring.getD p Slot.vacant

/-- The slot at the position of a sequence. -/
def Stream.slotOf (st : Stream) (an : Anchor) (s : Seq) : Slot := st.slotAt (an.position st.depth s)

/-- A FILLED or RECOVERED slot is good (R73). -/
def Slot.good (sl : Slot) : Bool := sl.state == .filled || sl.state == .recovered

/-- Whether a sequence is in the pending segment: a break sequence is present and it follows it (R49). -/
def Stream.isPending (st : Stream) (s : Seq) : Bool := seqFollowsOpt s st.breakSeq

/-- The extended index of a sequence of the current segment (R49). -/
def Anchor.index (an : Anchor) (s : Seq) : Nat := an.eBase + (s - an.base).toNat

/-- The extended index of a sequence of the pending segment (R49). -/
def PendingAnchor.index (pa : PendingAnchor) (s : Seq) : Nat := (s - pa.b).toNat

/-- round-half-away(e × N × 24,576,000 / fs) (R49). -/
def Stream.indexTicks (st : Stream) (e : Nat) : Int := roundHalfAway (e * st.n * Config.ticksPerSecond : Nat) st.fs

/-- The expected stamp of extended index `e` from an anchor time (R49). -/
def Stream.expectedStamp (st : Stream) (a : Time) (e : Nat) : Time := a + time48 (st.indexTicks e)

/-- A ring with the slot at one position replaced. -/
def Stream.putSlot (st : Stream) (p : Nat) (sl : Slot) : Stream := { st with ring := st.ring.set p sl }

/-! ## Emptying -/

/-- Whether the operation's target slot is RECOVERING (R102, R103). -/
def State.targetRecovering (s : State) (i : Fin 8) (op : RecoveryOp) : Bool :=
  ((s.stream i).slotAt op.position).state == .recovering

/-- An operand of the operation in flight was emptied while its target is RECOVERING: the target returns to EMPTY
(R102). `gone` are the sequences of the emptied slots of stream `i`. -/
def State.operandsEmptied (i : Fin 8) (gone : List Seq) (s : State) : State :=
  match s.recovery with
  | none => s
  | some op =>
    if op.stream = some i && s.targetRecovering i op && op.operands.any (fun q => gone.contains q) then
      s.setStream i ((s.stream i).putSlot op.position Slot.vacant)
    else s

/-- The slots of a stream that `p` names are emptied, and their cells released (R88). -/
def State.emptySlots (i : Fin 8) (p : Slot → Bool) (s : State) : State :=
  let st := s.stream i
  let gone := st.ring.filter (fun sl => p sl && sl.state != .empty)
  let s1 := s.setStream i { st with ring := st.ring.map (fun sl => if p sl then Slot.vacant else sl) }
  (s1.release (gone.flatMap (·.cells))).operandsEmptied i (gone.map (·.seq))

/-- A stream's request, if it waits, leaves the request list (R98). -/
def State.dropRequest (i : Fin 8) (s : State) : State := { s with requests := s.requests.filter (fun j => j != i) }

/-- The parity holder of a stream is emptied: its cells are released and a waiting request is removed (R97). -/
def State.emptyHolder (i : Fin 8) (s : State) : State :=
  match (s.stream i).holder with
  | none => s.dropRequest i
  | some h => ((s.setStream i { s.stream i with holder := none }).release h.cells).dropRequest i

/-! ## The holder test (R96) -/

/-- The sequences of a group, from its first (R90). -/
def groupSeqs (first : Seq) (g : Nat) : List Seq := (List.range g).map (fun j => first + BitVec.ofNat 16 j)

/-- Whether a sequence belongs to a group (R90). -/
def inGroup (first : Seq) (g : Nat) (s : Seq) : Bool := decide ((s - first).toNat < g)

/-- What a parity group is found to be (R96). -/
inductive GroupClass where
  | expired | complete | recoverable | waiting
deriving DecidableEq, Repr

/-- The classes of R96, the first that fits. -/
def Stream.classGroup (st : Stream) (an : Anchor) (first : Seq) (g : Nat) : GroupClass :=
  let seqs := groupSeqs first g
  let slots := seqs.map (st.slotOf an)
  if seqs.any (fun q => seqPrecedes q an.base || st.isPending q) || slots.any (fun sl => sl.state == .missed) then
    .expired
  else if slots.all Slot.good then .complete
  else if slots.countP (fun sl => sl.state == .empty) == 1 && slots.all (fun sl => sl.good || sl.state == .empty) then
    .recoverable
  else .waiting

/-- The holder test of R96 on a stream's holder; with an empty holder, or no anchor, it does nothing. -/
def State.holderTest (i : Fin 8) (s : State) : State :=
  match (s.stream i).holder, (s.stream i).anchor with
  | some h, some an =>
    match (s.stream i).classGroup an h.first h.g with
    | .expired => (s.emptyHolder i).bumpStream i .parityExpired
    | .complete => (s.emptyHolder i).bumpStream i .groupComplete
    | .recoverable =>
      if s.requests.contains i then s
      else ({ s with requests := s.requests ++ [i] }).bumpStream i .recoveryRequests
    | .waiting => s.dropRequest i
  | _, _ => s

/-- The holder test, where a sequence belongs to the holder's group (R97). -/
def State.holderTestFor (i : Fin 8) (q : Seq) (s : State) : State :=
  match (s.stream i).holder with
  | none => s
  | some h => if inGroup h.first h.g q then s.holderTest i else s

/-! ## Readers of a stream -/

/-- Whether a source names a stream. -/
def names (src : Option Source) (i : Fin 8) : Bool :=
  match src with
  | none => false
  | some sr => sr.stream == i

/-- A change of place of the readers of a channel that name the stream. -/
def Channel.moveReaders (i : Fin 8) (g : ReaderPos → ReaderPos) (ch : Channel) : Channel :=
  { ch with
    primaryPos := if names ch.primarySrc i then g ch.primaryPos else ch.primaryPos
    overlayPos := if names ch.overlaySrc i then g ch.overlayPos else ch.overlayPos }

/-- A change of place of every reader of a stream, its virtual reader included. -/
def State.moveReaders (i : Fin 8) (g : ReaderPos → ReaderPos) (s : State) : State :=
  let s1 := { s with channels := map8 (Channel.moveReaders i g) s.channels }
  s1.setStream i { s1.stream i with virt := g (s1.stream i).virt }

/-- Every reader of a stream, its virtual reader included, returns to the current segment with no position (R60, R124). -/
def State.freshReaders (i : Fin 8) (s : State) : State := s.moveReaders i (fun _ => .fresh)

/-! ## The flush -/

/-- Everything the flush of R60 gives up, leaving the stream in state `dest`. -/
def State.flushTo (i : Fin 8) (dest : StreamState) (s : State) : State :=
  let s1 := (s.emptySlots i (fun _ => true)).emptyHolder i
  let s2 := s1.freshReaders i
  s2.setStream i { s2.stream i with
    state := dest
    anchor := none
    pendingAnchor := none
    breakSeq := none
    secondBreak := none
    endSeq := none
    mismatchRun := 0
    missedRun := 0 }

/-- The flush of one stream by a time fault (R61). -/
def State.timeFlush (i : Fin 8) (s : State) : State :=
  if (s.stream i).running then ((s.flushTo i .listening).bumpStream i .flushes).raiseStream i .flushed else s

/-- The flush of every stream in PRIMED, PLAYING or DRAINING, within one event (R19, R61). -/
def State.flushAnchored (s : State) : State := eight.foldl (fun s i => s.timeFlush i) s

/-- The starvation flush (R59, R61). -/
def State.starve (i : Fin 8) (s : State) : State :=
  (((s.flushTo i .listening).bumpStream i .flushes).bumpStream i .starvations).raiseStream i .starved

/-- The re-anchor flush (R52, R61). -/
def State.reanchor (i : Fin 8) (s : State) : State :=
  (((s.flushTo i .listening).bumpStream i .flushes).bumpStream i .reanchors).raiseStream i .reanchored

end Sys2Proof.Machine
end

