-- ==== Sys2Proof/Machine/TimeLock.lean ====
section
/-! DEFINITION. The Time Lock Unit (01_house_time.md): the estimate, the taking of a BEAT, the window close and its servo, the
gap and holdover expiries, the change of time source, and when beat regeneration runs (R155). -/

namespace Sys2Proof.Machine

/-! ## The estimate -/

/-- Whether HT_est is available (R16). -/
def Tlu.hasEstimate (t : Tlu) : Bool :=
  match t.timeState with
  | .settling | .locked | .holdover => true
  | .unlocked | .acquiring => false

/-- R × x / 2^24, rounded toward zero, the product formed exactly (R11, R16). -/
def rateTerm (rate x : Int) : Int := truncDiv (rate * x) 16777216

/-- The formula of R16. -/
def Tlu.estimate (t : Tlu) (x : Time) : Time := x + t.oc + time48 (rateTerm t.rate (signed48 x t.lcc))

/-- HT_est at a local instant; none in UNLOCKED and ACQUIRING (R16). -/
def Tlu.htEst (t : Tlu) (x : Time) : Option Time := if t.hasEstimate then some (t.estimate x) else none

/-! ## Regeneration (R155) -/

/-- Whether the three conditions of R155 hold together. -/
def State.regenRuns (s : State) : Bool := s.tlu.hasEstimate && s.relay.link == .up && s.relay.interval != 0

/-- What R155 does within the event in which its conditions come to hold or cease: the timer is present exactly while
they hold. -/
def State.regenCheck (s : State) : State :=
  if s.regenRuns then
    match s.relay.timer with
    | some _ => s
    | none => { s with relay := { s.relay with
        beatPending := true, timer := some (timeAfter s.lc s.relay.interval) } }
  else { s with relay := { s.relay with beatPending := false, timer := none } }

/-! ## Window closes (R10 to R15) -/

/-- The least of the window's values on their signed reading (R10). -/
def leastOffset : List Time → Time
  | [] => 0
  | d :: ds => ds.foldl (fun m x => if x.toInt < m.toInt then x else m) d

/-- The regeneration epoch advances by one (R21). -/
def Tlu.advanceEpoch (t : Tlu) : Tlu := { t with regenEpoch := t.regenEpoch + 1 }

/-- The close that ends ACQUIRING (R10). -/
def Tlu.acquire (t : Tlu) (m close : Time) : Tlu :=
  ({ t with
    oc := m, lcc := close, rate := 0, mPrev := some m, strikes := 0, lockCount := 0, timeState := .settling
    : Tlu}).advanceEpoch

/-- O_pred (R11). -/
def Tlu.predicted (t : Tlu) (close : Time) : Time := t.oc + time48 (rateTerm t.rate (ticksSince close t.lcc))

/-- e = signed48(m - O_pred), as a 48-bit value (R11). -/
def Tlu.error (t : Tlu) (m close : Time) : Time := m - t.predicted close

/-- The rate after a close that passes the step test (R13). -/
def Tlu.newRate (t : Tlu) (m close : Time) : Int :=
  match t.mPrev with
  | none => t.rate
  | some mp =>
    let e := ticksSince close t.lcc
    if 1048576 ≤ e then
      let rho := clampInt (roundHalfAway (signed48 m mp * 16777216) e) (-4096) 4096
      clampInt (t.rate + truncDiv (rho - t.rate) 4) (-4096) 4096
    else t.rate

/-- The slew s = clamp(trunc(e / 8), -64, +64) (R14). -/
def slew (e : Int) : Int := clampInt (truncDiv e 8) (-64) 64

/-- The lock judgement of a committed close with |e| (R15): time state and lock count after it. -/
def Tlu.judge (t : Tlu) (absE : Nat) : Tlu :=
  match t.timeState with
  | .settling =>
    if absE ≤ 246 then
      if t.lockCount + 1 = 2 then { t with timeState := .locked, lockCount := 2 }
      else { t with lockCount := t.lockCount + 1 }
    else { t with lockCount := 0 }
  | .locked => if absE ≤ 1229 then t else { t with timeState := .settling, lockCount := 0 }
  | .unlocked | .acquiring | .holdover => t

/-- A committed close: R13, then R14, then R15. -/
def Tlu.commit (t : Tlu) (m close : Time) : Tlu :=
  let e := t.error m close
  ({ t with
    strikes := 0
    lastError := e
    rate := t.newRate m close
    oc := t.predicted close + time48 (slew e.toInt)
    lcc := close
    mPrev := some m : Tlu}).judge e.toInt.natAbs

/-- A step (R12). -/
def Tlu.step (t : Tlu) (m close : Time) : Tlu :=
  ({ t with
    lastError := t.error m close
    oc := m, lcc := close, mPrev := some m, strikes := 0, lockCount := 0, timeState := .settling : Tlu}).advanceEpoch

/-- A Time Lock Unit replaced. -/
def State.setTlu (s : State) (t : Tlu) : State := { s with tlu := t }

/-- The window empties (R10). -/
def Tlu.emptyWindow (t : Tlu) : Tlu := { t with window := [], windowNewest := none }

/-- A window close on the eighth value, at the instant of the eighth beat (R10 to R15). -/
def State.closeWindow (close : Time) (s : State) : State :=
  let m := leastOffset s.tlu.window
  let t := s.tlu.emptyWindow
  let s1 := (s.setTlu t).bump .windowCloses
  match t.timeState with
  | .settling | .locked =>
    let e := (t.error m close).toInt.natAbs
    if e ≤ 24576 then s1.setTlu (t.commit m close)
    else if t.strikes = 0 then (s1.setTlu { t with strikes := 1, lastError := t.error m close }).bump .stepStrikes
    else ((((s1.setTlu (t.step m close)).bump .steps).flushAnchored).raisePart .timeStepped)
  | .acquiring => (s1.setTlu (t.acquire m close)).regenCheck
  | .unlocked | .holdover => s1

/-! ## Taking a BEAT (R6 to R9) -/

/-- d = signed48(stamp - arrival instant) + allowance, as a signed 48-bit value (R8). -/
def Tlu.rawOffset (t : Tlu) (stamp arrival : Time) : Time := stamp - arrival + time48 t.allowance

/-- A raw offset joins the window (R8). -/
def Tlu.append (t : Tlu) (d arrival : Time) : Tlu :=
  { t with window := t.window ++ [d], windowNewest := some arrival }

/-- The window with one value, at the start of a new window (R7, R8, R9). -/
def Tlu.startWindow (t : Tlu) (d arrival : Time) : Tlu :=
  { t with window := [d], windowNewest := some arrival }

/-- The window rule of R8 and R9 for the time state the unit is in. -/
def State.windowRule (d arrival : Time) (s : State) : State :=
  match s.tlu.timeState with
  | .unlocked => s.setTlu { s.tlu.startWindow d arrival with timeState := .acquiring }
  | .acquiring | .settling | .locked =>
    let s1 := s.setTlu (s.tlu.append d arrival)
    if 8 ≤ s1.tlu.window.length then s1.closeWindow arrival else s1
  | .holdover =>
    s.setTlu { s.tlu.startWindow d arrival with
      timeState := .settling, holdoverStart := none, strikes := 0, lockCount := 0 }

/-- A restart by epoch (R7). The holdover start is left as it was, for R7 does not name it (DEDUCED, log 22). -/
def State.epochRestart (epoch : BitVec 8) (d arrival : Time) (s : State) : State :=
  let s1 := ((s.bump .epochRestarts).flushAnchored).raisePart .timeRestart
  (s1.setTlu { s1.tlu.startWindow d arrival with
    mPrev := none, strikes := 0, lockCount := 0, epoch := some epoch, timeState := .acquiring }).regenCheck

/-- A used beat (R6): counted, recorded, then the epoch test of R7 and the window rule. -/
def State.useBeat (f : InFrame) (s : State) : State :=
  let s1 := s.bump .beatsUsed
  let s2 := s1.setTlu { s1.tlu with lastBeat := some (f.arrival, frameSeq f.bytes) }
  let d := s2.tlu.rawOffset (frameStamp f.bytes) f.arrival
  let epoch := frameEpoch f.bytes
  match s2.tlu.epoch with
  | none => (s2.setTlu { s2.tlu with epoch := some epoch }).windowRule d f.arrival
  | some e => if e = epoch then s2.windowRule d f.arrival else s2.epochRestart epoch d f.arrival

/-- The screening of R6. With no time source every well-formed BEAT is foreign. -/
def State.takeBeat (f : InFrame) (s : State) : State :=
  if framePayloadLength f.bytes != 0 then s.bump .beatsMalformed
  else if s.tlu.source = 0 || frameSource f.bytes != s.tlu.source then s.bump .beatsForeign
  else s.useBeat f

/-! ## Gaps and holdover (R17, R18) -/

/-- The loss of time (R18): to UNLOCKED, with every anchored stream flushed and TIME_LOST raised. -/
def State.loseTime (s : State) : State :=
  let t : Tlu := { s.tlu.emptyWindow with
    timeState := .unlocked, mPrev := none, epoch := none, lastBeat := none, holdoverStart := none, strikes := 0
    lockCount := 0 }
  (((((s.setTlu t).bump .timeLosses).flushAnchored).raisePart .timeLost)).regenCheck

/-- The effect of the gap expiry at the current LC (R17). -/
def State.gapExpires (s : State) : State :=
  match s.tlu.timeState with
  | .acquiring =>
    s.setTlu { s.tlu.emptyWindow with timeState := .unlocked, epoch := none, lastBeat := none }
  | .settling | .locked =>
    if s.tlu.holdoverLimit = 0 then s.loseTime
    else (s.setTlu { s.tlu with timeState := .holdover, holdoverStart := some s.lc }).bump .holdovers
  | .unlocked | .holdover => s

/-- Whether the gap interval has expired: the ticks since the last used beat's arrival exceed the gap timeout (R17). -/
def State.gapDue (s : State) : Bool :=
  match s.tlu.lastBeat with
  | none => false
  | some (arrival, _) => decide (s.tlu.gapTimeout < ticksSince s.lc arrival)

/-- Whether HOLDOVER has reached its limit (R18). -/
def State.holdoverDue (s : State) : Bool :=
  match s.tlu.timeState, s.tlu.holdoverStart with
  | .holdover, some start => decide (s.tlu.holdoverLimit ≤ ticksSince s.lc start)
  | _, _ => false

/-! ## SET_TIME_SOURCE (R3 to R5) -/

/-- The restart of R4. -/
def State.restartTime (source : NodeId) (allowance : Int) (gap holdover : Nat) (s : State) : State :=
  let s1 := s.flushAnchored.raisePart .timeRestart
  (s1.setTlu { s1.tlu.emptyWindow with
    mPrev := none, epoch := none, lastBeat := none, holdoverStart := none, strikes := 0, lockCount := 0
    source := source, allowance := allowance, gapTimeout := gap, holdoverLimit := holdover
    timeState := .unlocked }).regenCheck

/-- New timeouts with source and allowance unchanged, applied at once to intervals already running (R5). -/
def State.retime (gap holdover : Nat) (s : State) : State :=
  let s1 := s.setTlu { s.tlu with gapTimeout := gap, holdoverLimit := holdover }
  if s1.holdoverDue then s1.loseTime
  else if s1.gapDue then s1.gapExpires
  else s1

/-- SET_TIME_SOURCE (R3): refused for a group or broadcast source, its other fields clamped, then R4 or R5. -/
def applySetTimeSource (source : NodeId) (allowance : BitVec 32) (gap : Byte) (holdover : BitVec 16) (s : State) :
    Except ResultCode State :=
  if 0xFF00 ≤ source.toNat then .error .badValue
  else
    let al := clampInt allowance.toInt (-8388608) 8388607
    let gt := clampNat gap.toNat 5 100 * Config.gapUnit
    let hl := clampNat holdover.toNat 0 600 * Config.ticksPerSecond
    if source = s.tlu.source ∧ al = s.tlu.allowance then .ok (s.retime gt hl)
    else .ok (s.restartTime source al gt hl)

/-! ## Regenerated beats (R22) -/

/-- The frame of a regenerated beat whose transmission begins now (R22), given its stamp. -/
def State.beatFrame (s : State) (stamp : Time) : List Byte :=
  buildFrame 3 7 (s.tlu.regenEpoch.setWidth 16) s.ident.node s.tlu.regenSeq stamp []

/-- SET_REGEN (R155). -/
def applySetRegen (ms : BitVec 16) (s : State) : Except ResultCode State :=
  let interval := if ms = 0 then 0 else clampNat ms.toNat 100 1000 * Config.ticksPerMs
  let s1 := { s with relay := { s.relay with interval := interval } }
  if s.regenRuns && interval != 0 then
    if interval = s.relay.interval then .ok s
    else .ok { s1 with relay := { s1.relay with timer := some (timeAfter s.lc interval) } }
  else .ok s1.regenCheck

end Sys2Proof.Machine
end

