-- ==== Sys2Proof/Machine/Reports.lean ====
section
/-! DEFINITION. The report queue and the notices (R173, R177, R178, R185): offering a frame, forming a notice, and the end of an
event in which codes were gathered. -/

namespace Sys2Proof.Machine

/-- A frame offered to the report queue (R173): placed at the tail, or dropped, counted and REPORT_DROP raised. The
answer says whether it was placed. -/
def State.offerReport (f : List Byte) (s : State) : Bool × State :=
  if s.du.reportQueue.length < Config.reportPlaces then
    (true, { s with du := { s.du with reportQueue := s.du.reportQueue ++ [f] } })
  else (false, (s.bump .reportDrop).raisePart .reportDrop)

/-- The code of a time state (R196). -/
def TimeState.code : TimeState → Nat
  | .unlocked => 0 | .acquiring => 1 | .settling => 2 | .locked => 3 | .holdover => 4

/-- The payload of an ATTENTION notice (R178, R197). The bits that no code uses, 9 to 15 of the part set and 5 to 7 of each
stream set, are sent as 0 (DESIGN CHOICE, log 20). -/
def State.attentionPayload (s : State) : List Byte :=
  leBytes 1 2 ++ leBytes 2 s.du.attention.toNat ++ eight.flatMap (fun i => leBytes 1 (s.stream i).attention.toNat)
    ++ leBytes 1 s.tlu.timeState.code

/-- The reset cause's code (R196). -/
def ResetCause.code : ResetCause → Nat
  | .powerOn => 0 | .directed => 1

/-- The payload of a PRESENCE notice (R185, R197). -/
def State.presencePayload (s : State) : List Byte :=
  leBytes 1 1 ++ leBytes 6 s.ident.serial.toNat ++ leBytes 1 s.ident.resetCause.code ++ leBytes 2 s.ident.directedResets

/-- A notice formed with the header of R178 and offered to the report queue: the notice count advances whether it is
placed or dropped, and NOTICES_QUEUED counts when it is placed (R178, R179, R185). -/
def State.sendNotice (payload : List Byte) (s : State) : State :=
  let f := buildFrame 6 7 s.du.noticeDest s.ident.node s.du.noticeCount 0 payload
  let r := ({ s with du := { s.du with noticeCount := s.du.noticeCount + 1 } }).offerReport f
  if r.1 then r.2.bump .noticesQueued else r.2

/-- The end of an event: when a code was gathered, one ATTENTION notice is formed and offered (R177). -/
def State.endEvent (s : State) : State :=
  if s.du.gathered then
    let s1 := { s with du := { s.du with gathered := false } }
    s1.sendNotice s1.attentionPayload
  else s

end Sys2Proof.Machine
end

