-- ==== Sys2Proof/Machine/Relay.lean ====
section
/-! DEFINITION. The Relay Unit (08_relay_and_the_satellite_link.md): the priority decision, the taking of a copy, the arbiter and
deficit round robin, the staleness test, transmission, the link, and the items that set its tables. -/

namespace Sys2Proof.Machine

/-! ## Priority (R145) -/

/-- The priority of a present source table entry for a node (R145). -/
def Relay.sourcePriority (r : Relay) (node : NodeId) : Option Nat :=
  r.sources.toList.findSome? (fun e =>
    match e with
    | some (n, p) => if n = node then some p else none
    | none => none)

/-- The candidate sources of priority that are in, with their weights, in the order stream, class, source (R145). -/
def Relay.candidates (r : Relay) (streamPrio : Option Nat) (cls : BitVec 3) (node : NodeId) : List (Nat × Nat) :=
  let all : List (Nat × Option Nat) :=
    [(r.wStream, streamPrio), (r.wClass, r.classMap.toList[cls.toNat]?), (r.wSource, r.sourcePriority node)]
  all.filterMap (fun c =>
    match c.2 with
    | some p => if c.1 = 0 then none else some (c.1, p)
    | none => none)

/-- The candidate of greatest weight, the first of those that share it; priority 0 when every source is out (R145). -/
def choosePriority : List (Nat × Nat) → Nat
  | [] => 0
  | c :: cs => (cs.foldl (fun best x => if best.1 < x.1 then x else best) c).2

/-- The queue a copy joins (R145). -/
def Relay.queueFor (r : Relay) (streamPrio : Option Nat) (cls : BitVec 3) (node : NodeId) : Fin 4 :=
  r.map.toList.getD (choosePriority (r.candidates streamPrio cls node)) 0

/-! ## Taking a copy (R148) -/

/-- Where an entry's cells come from (R148). -/
inductive CopyCells where
  /-- The offering holder's own cells, held a second time (R85, R95). -/
  | shared (cells : List Nat)
  /-- New cells owned by the stream, for which admission has already found room (R84, R95). -/
  | owned (i : Fin 8) (words : List (List Word))
  /-- New cells owned by no stream, under the pool test (R86). -/
  | unowned (words : List (List Word))

/-- The Relay Unit replaced. -/
def State.setRelay (s : State) (r : Relay) : State := { s with relay := r }

/-- An entry joins the tail of a queue (R148 step 5). -/
def State.enqueue (q : Fin 4) (e : RelayEntry) (s : State) : State :=
  let rq := s.relay.queue q
  (s.setRelay (s.relay.setQueue q { rq with entries := rq.entries ++ [e] })).bump .relayCopies

/-- A copy declined for a full queue or dropped for want of cells (R148). -/
def State.relayDropped (s : State) : State := (s.bump .relayDrop).raisePart .relayDrop

/-- The entry for a frame: DIRECTIVE entries carry no header and a stamp of zero (R144). -/
def entryFor (kind : EntryKind) (stream : Option (Fin 8)) (bytes : List Byte) (cells : List Nat) : RelayEntry :=
  match kind with
  | .directive => ⟨.directive, stream, [], 0, bytes.length, cells⟩
  | .audio => ⟨.audio, stream, bytes.take 16, frameStamp bytes, bytes.length, cells⟩
  | .parity => ⟨.parity, stream, bytes.take 16, frameStamp bytes, bytes.length, cells⟩

/-- The Relay Unit judges an offered copy (R148). -/
def State.offerCopy (kind : EntryKind) (stream : Option (Fin 8)) (bytes : List Byte) (cells : CopyCells) (s : State) :
    State :=
  if s.relay.link != .up then s.bump .relayLinkDown
  else
    let q := s.relay.queueFor (stream.map (fun i => (s.stream i).prio)) (frameClass bytes) (frameSource bytes)
    if Config.relayPlaces ≤ (s.relay.queue q).entries.length then s.relayDropped
    else
      match cells with
      | .shared ids => (s.hold ids).enqueue q (entryFor kind stream bytes ids)
      | .owned i ws =>
        let r := s.alloc (some i) ws
        r.2.enqueue q (entryFor kind stream bytes r.1)
      | .unowned ws =>
        if s.poolAllows ws.length then
          let r := s.alloc none ws
          r.2.enqueue q (entryFor kind stream bytes r.1)
        else s.relayDropped

/-- The cells a directive's bytes are packed in: ⌈L / 512⌉ (R86). -/
def directiveCells (bytes : List Byte) : List (List Word) :=
  cellsOf (packWords bytes) (ceilDiv bytes.length (4 * Config.cellWords))

/-! ## Transmission (R154) -/

/-- The frame of an entry, rebuilt as it is sent (R154). -/
def Pool.entryFrame (p : Pool) (e : RelayEntry) : List Byte :=
  match e.kind with
  | .directive => closed (((p.wordsOf e.cells).flatMap unpackWord).take (e.length - 4))
  | .audio | .parity =>
    closed (e.header ++ ((p.wordsOf e.cells).take ((e.length - 20) / 3)).flatMap wordSample)

/-- A transmission that starts at an instant; the cells of the line are counted from there (R154, R198). -/
def Relay.begin (r : Relay) (now : Time) (entry : Option RelayEntry) (frame : List Byte) (length : Nat) : Relay :=
  { r with tx := some ⟨entry, now, length, frame⟩, cellOrigin := now }

/-- The head of a queue leaves it and becomes the transmission (R154). -/
def State.startEntry (q : Fin 4) (e : RelayEntry) (s : State) : State :=
  let rq := s.relay.queue q
  let r := s.relay.setQueue q { rq with entries := rq.entries.tail }
  s.setRelay (r.begin s.lc (some e) (s.pool.entryFrame e) e.length)

/-- A pending beat begins transmission and takes its contents and sequence (R22, R154). -/
def State.startBeat (stamp : Time) (s : State) : State :=
  let f := s.beatFrame stamp
  let s1 := s.setRelay ({ s.relay with beatPending := false }.begin s.lc none f f.length)
  (s1.setTlu { s1.tlu with regenSeq := s1.tlu.regenSeq + 1 }).bump .beatsRegenerated

/-- Whether a head entry is stale now (R153). -/
def State.stale (s : State) (e : RelayEntry) : Bool :=
  match e.kind, s.tlu.htEst s.lc with
  | .directive, _ => false
  | _, none => false
  | _, some h => decide (signed48 e.stamp h < s.relay.margin)

/-- The head of a queue is discarded as stale (R153). -/
def State.discardHead (q : Fin 4) (e : RelayEntry) (s : State) : State :=
  let rq := s.relay.queue q
  ((s.setRelay (s.relay.setQueue q { rq with entries := rq.entries.tail })).release e.cells).bump .relayStale

/-! ## The arbiter (R151, R152) -/

/-- Entries waiting in all four queues. -/
def Relay.waiting (r : Relay) : Nat := (four.map (fun q => (r.queue q).entries.length)).sum

/-- The head of the highest-numbered strict queue that holds an entry (R151). -/
def Relay.strictHead (r : Relay) : Option (Fin 4 × RelayEntry) :=
  four.reverse.findSome? (fun q =>
    match (r.queue q).weighted, (r.queue q).entries with
    | false, e :: _ => some (q, e)
    | _, _ => none)

/-- Step 2 of a selection: strict heads in turn until one passes the staleness test (R151). The answer says whether one
was chosen. `n` bounds the heads discarded. -/
def State.selectStrict : Nat → State → Bool × State
  | 0, s => (false, s)
  | n + 1, s =>
    match s.relay.strictHead with
    | none => (false, s)
    | some (q, e) =>
      if s.stale e then State.selectStrict n (s.discardHead q e)
      else (true, s.startEntry q e)

/-- Whether a weighted queue holds an entry. -/
def RelayQueue.contends (rq : RelayQueue) : Bool := rq.weighted && !rq.entries.isEmpty

/-- The next weighted queue that holds an entry, in ascending order after `p`, wrapping, `p` itself last (R152). -/
def Relay.nextWeighted (r : Relay) (p : Fin 4) : Option (Fin 4) :=
  [p + 1, p + 2, p + 3, p].find? (fun q => (r.queue q).contends)

/-- The deficit of one queue set. -/
def Relay.setDeficit (r : Relay) (q : Fin 4) (d : Nat) : Relay := r.setQueue q { r.queue q with deficit := d }

/-- The quantum of a queue: weight × 64 bytes (R143). -/
def RelayQueue.quantum (rq : RelayQueue) : Nat := rq.weight * 64

/-- The advance of R152: the deficit of an empty or strict queue at the pointer becomes 0, and the pointer moves to the
next weighted queue that holds an entry, whose deficit grows by its quantum. -/
def Relay.advance (r : Relay) : Option Relay × Relay :=
  let p := r.pointer
  let r1 := if (r.queue p).contends then r else r.setDeficit p 0
  match r1.nextWeighted p with
  | none => (none, r1)
  | some q => (some { r1.setDeficit q ((r1.queue q).deficit + (r1.queue q).quantum) with pointer := q }, r1)

/-- Step 3 of a selection: deficit round robin (R152). `n` bounds the repetitions. -/
def State.selectWeighted : Nat → State → State
  | 0, s => s
  | n + 1, s =>
    let p := s.relay.pointer
    let rq := s.relay.queue p
    match rq.weighted, rq.entries with
    | true, e :: _ =>
      if e.length ≤ rq.deficit then
        if s.stale e then State.selectWeighted n (s.discardHead p e)
        else (s.setRelay (s.relay.setDeficit p (rq.deficit - e.length))).startEntry p e
      else
        match s.relay.advance with
        | (some r, _) => State.selectWeighted n (s.setRelay r)
        | (none, r) => s.setRelay r
    | _, _ =>
      match s.relay.advance with
      | (some r, _) => State.selectWeighted n (s.setRelay r)
      | (none, r) => s.setRelay r

/-- The longest head length a round may meet. -/
def Relay.longest (r : Relay) : Nat :=
  four.foldl (fun m q => (r.queue q).entries.foldl (fun m e => max m e.length) m) 0

/-- A bound on the repetitions of one round: between two discards every weighted queue's deficit reaches its head's
length within ⌈longest / 64⌉ turns of the four queues. -/
def Relay.roundBound (r : Relay) : Nat := (r.waiting + 1) * (4 * (r.longest / 64 + 2)) + 8

/-- A selection (R151). It is made while the link is UP and no transmission is in progress; otherwise nothing takes
place. With nothing waiting the round still ends at the pointer's queue (DEDUCED, log 13). -/
def State.select (s : State) : State :=
  if s.relay.link == .up && s.relay.tx.isNone then
    match s.relay.beatPending, s.tlu.htEst s.lc with
    | true, some h => s.startBeat h
    | _, _ =>
      let r := s.selectStrict (s.relay.waiting + 1)
      if r.1 then r.2 else r.2.selectWeighted r.2.relay.roundBound
  else s

/-- The end of a transmission, 16 × L ticks after its start (R154). -/
def State.endTransmission (s : State) : State :=
  match s.relay.tx with
  | none => s
  | some t =>
    if 16 * t.length ≤ ticksSince s.lc t.start then
      let s1 := s.setRelay { s.relay with tx := none }
      match t.entry with
      | none => s1
      | some e => (s1.release e.cells).bump .relaySent
    else s

/-! ## The link (R149, R150) -/

/-- Entries discarded by the loss of the link: their cells released, each counted (R150). -/
def State.discardEntries : List RelayEntry → State → State
  | [], s => s
  | e :: es, s => State.discardEntries es ((s.release e.cells).bump .relayLinkDiscards)

/-- The entry in transmission, if any. -/
def Relay.txEntry (r : Relay) : List RelayEntry :=
  match r.tx with
  | some ⟨some e, _, _, _⟩ => [e]
  | _ => []

/-- A queue emptied by the loss of the link (R150). -/
def RelayQueue.lose (rq : RelayQueue) : RelayQueue := { rq with entries := [], deficit := 0 }

/-- The link leaves UP (R149, R150). -/
def State.linkLost (s : State) : State :=
  let s1 := s.discardEntries (s.relay.txEntry ++ four.flatMap (fun q => (s.relay.queue q).entries))
  let s2 := s1.setRelay { s1.relay with
    tx := none, queues := map4 RelayQueue.lose s1.relay.queues, link := .down }
  (s2.bump .linkDowns).regenCheck

/-- SAT_DET rises (R149). -/
def State.satRise (s : State) : State :=
  let s1 := s.setRelay { s.relay with satDet := true }
  match s1.relay.link with
  | .down => s1.setRelay { s1.relay with link := .qualifying (timeAfter s1.lc Config.qualification) }
  | .qualifying _ | .up => s1

/-- SAT_DET falls (R149). -/
def State.satFall (s : State) : State :=
  let s1 := s.setRelay { s.relay with satDet := false }
  match s1.relay.link with
  | .down => s1
  | .qualifying _ => s1.setRelay { s1.relay with link := .down }
  | .up => s1.linkLost

/-- The qualification interval ends (R149). -/
def State.qualified (s : State) : State :=
  match s.relay.link with
  | .qualifying due =>
    if reached s.lc due then ((s.setRelay { s.relay with link := .up, upFor := 0 }).bump .linkUps).regenCheck else s
  | .down | .up => s

/-- The regeneration timer expires (R155). -/
def State.regenExpiry (s : State) : State :=
  match s.relay.timer with
  | none => s
  | some due =>
    if reached s.lc due then
      let s1 := s.setRelay { s.relay with beatPending := true, timer := some (timeAfter due s.relay.interval) }
      if s.relay.beatPending then s1.bump .regenReplaced else s1
    else s

/-! ## Items (R146, R147, R153) -/

/-- SET_CLASS_MAP (R146). -/
def applySetClassMap (prios : Vector Byte 8) (s : State) : Except ResultCode State :=
  .ok (s.setRelay { s.relay with classMap := map8 (fun b : Byte => clampNat b.toNat 0 7) prios })

/-- Whether a node stands in a present entry other than `i` (R146). -/
def Relay.holdsNode (r : Relay) (i : Nat) (node : NodeId) : Bool :=
  r.sources.toList.zipIdx.any (fun e =>
    e.2 != i && (match e.1 with
      | some (n, _) => n == node
      | none => false))

/-- SET_SOURCE_ENTRY (R146). -/
def applySetSourceEntry (index : Byte) (node : NodeId) (prio : Byte) (s : State) : Except ResultCode State :=
  if h : index.toNat < 16 then
    if 0xFF00 ≤ node.toNat then .error .badValue
    else if node != 0 && s.relay.holdsNode index.toNat node then .error .duplicateSource
    else
      let e := if node = 0 then none else some (node, clampNat prio.toNat 0 7)
      .ok (s.setRelay { s.relay with sources := s.relay.sources.set index.toNat e })
  else .error .badIndex

/-- SET_PRIORITY_WEIGHTS (R146). -/
def applySetPriorityWeights (stream cls source : Byte) (s : State) : Except ResultCode State :=
  .ok (s.setRelay { s.relay with
    wStream := clampNat stream.toNat 0 7, wClass := clampNat cls.toNat 0 7, wSource := clampNat source.toNat 0 7 })

/-- A queue with its new type and weight: a type that changes sets the deficit to 0 (R147). -/
def RelayQueue.configure (rq : RelayQueue) (type weight : Byte) : RelayQueue :=
  let w := type != 0
  { rq with weighted := w, weight := clampNat weight.toNat 1 127, deficit := if w = rq.weighted then rq.deficit else 0 }

/-- A byte below four as a queue number. -/
def queueIndex (b : Byte) : Fin 4 := ⟨b.toNat % 4, Nat.mod_lt _ (by decide)⟩

/-- SET_QUEUES (R147). -/
def applySetQueues (p : QueueParams) (s : State) : Except ResultCode State :=
  if p.count = 0 || decide (4 < p.count.toNat) then .error .badValue
  else if p.map.toList.any (fun b => decide (p.count.toNat ≤ b.toNat)) then .error .badValue
  else if p.types.toList.any (fun b => decide (1 < b.toNat)) then .error .badValue
  else
    .ok (s.setRelay { s.relay with
      count := p.count.toNat
      map := map8 queueIndex p.map
      queues := tab4 (fun q => (s.relay.queue q).configure p.types[q] p.weights[q]) })

/-- SET_RELAY_MARGIN (R153). -/
def applySetRelayMargin (ms : Byte) (s : State) : Except ResultCode State :=
  .ok (s.setRelay { s.relay with margin := clampNat ms.toNat 0 50 * Config.ticksPerMs })

end Sys2Proof.Machine
end

