-- ==== Sys2Proof/Machine/Port.lean ====
section
/-! DEFINITION. The Packet Port and Dispatch (02_frames_on_the_packet_port.md): selects, the intake list, the checks at the end
of a write, reads of the report queue, and the handing on of frames. -/

namespace Sys2Proof.Machine

/-- The port replaced. -/
def State.setPort (s : State) (p : Port) : State := { s with port := p }

/-- The select in progress replaced. -/
def State.setSelect (s : State) (x : Select) : State := s.setPort { s.port with select := x }

/-- Buffers in use: the WAITING ones and the FILLING one (R26). -/
def Port.used (p : Port) : Nat :=
  p.intake.length + (match p.select with
    | .write _ => 1
    | _ => 0)

/-- PP_SEL asserted: the current LC is captured (R25). A void select ends with its deassertion, which has no row; an
assertion while a select is in progress cannot come (DEDUCED, log 32). -/
def State.assertSelect (s : State) : State :=
  match s.port.select with
  | .idle | .void => s.setSelect (.opening s.lc)
  | .opening _ | .write _ | .refused | .read _ => s

/-- The opening byte is WRITE (R27): a FREE buffer is claimed, or the frame is refused INTAKE_FULL. -/
def State.openWrite (s : State) : State :=
  match s.port.select with
  | .opening arrival =>
    if s.port.intake.length < Config.intakeBuffers then s.setSelect (.write arrival)
    else (((s.setSelect .refused).bump .framesIn).bump .refusedIntakeFull).raisePart .intakeDrop
  | _ => s

/-- The opening byte is READ (R39): the head of the report queue, or no frame, is fixed. -/
def State.openRead (s : State) : State :=
  match s.port.select with
  | .opening _ => s.setSelect (.read s.du.reportQueue.head?)
  | _ => s

/-- Any other opening byte: the select is void and counted (R25). -/
def State.openBad (s : State) : State :=
  match s.port.select with
  | .opening _ => (s.setSelect .void).bump .badOpenings
  | _ => s

/-- What an opening byte decodes as (R25). -/
inductive Opening where
  | write | read | unknown
deriving DecidableEq, Repr

/-- The decoding of the opening byte: 0xA5 is WRITE, 0x5A is READ, any other value is neither (R25; 11.1). -/
def openingOf (b : Byte) : Opening :=
  if b = Config.writeOpening then .write else if b = Config.readOpening then .read else .unknown

/-- The opening byte of a select is complete (R25); an INTAKE_FULL refusal may bring a notice (R27, R177). -/
def State.takeOpening (b : Byte) (s : State) : State :=
  match openingOf b with
  | .write => s.openWrite.endEvent
  | .read => s.openRead
  | .unknown => s.openBad

/-- PP_SEL deasserted before the opening byte is complete (R25). -/
def State.endEarly (s : State) : State :=
  match s.port.select with
  | .opening _ => s.setSelect .idle
  | _ => s

/-- The counter of a refusal at the end of a write (R29). -/
def FrameFault.counter : FrameFault → PartCounter
  | .length => .refusedLength
  | .check => .refusedCheck
  | .badHeader => .refusedBadHeader

/-- The end of a write select (R28, R29, R30). -/
def State.endWrite (bytes : List Byte) (ragged : Bool) (s : State) : State :=
  match s.port.select with
  | .write arrival =>
    let s1 := (s.setSelect .idle).bump .framesIn
    let filling := Filling.of bytes
    match frameFault filling ragged with
    | some f => s1.bump f.counter
    | none =>
      (s1.setPort { s1.port with intake := s1.port.intake ++ [⟨filling.stored, arrival⟩] }).bump .framesQueued
  | .refused => s.setSelect .idle
  | _ => s

/-- The end of a read select (R39, R40): complete when the two count bytes and the whole frame were shifted out. -/
def State.endRead (shifted : Nat) (s : State) : State :=
  match s.port.select with
  | .read frame =>
    let s1 := s.setSelect .idle
    match frame with
    | none => s1
    | some f =>
      if 2 + f.length ≤ shifted then
        ({ s1 with du := { s1.du with reportQueue := s1.du.reportQueue.tail } }).bump .framesOut
      else s1
  | _ => s

/-! ## Dispatch -/

/-- The head frame leaves the list and its buffer becomes FREE (R31). -/
def Port.freeHead (p : Port) : Port := { p with intake := p.intake.tail, handed := [] }

/-- Whether the Directive Unit takes a DIRECTIVE, and whether it is copied for relay (R35). -/
def Identity.addresses (d : Identity) (dest : NodeId) : Bool × Bool :=
  if dest = 0 then (false, false)
  else if d.node = 0 then (dest = 0xFFFF, true)
  else if dest = d.node then (true, false)
  else if d.groups.contains dest || dest = 0xFFFF then (true, true)
  else (false, true)

/-- The consumers of a DIRECTIVE, the Relay Unit first (R35, R36). -/
def consumersOf (a : Bool × Bool) : List Consumer :=
  (if a.2 then [.relay] else []) ++ (if a.1 then [.directives] else [])

/-- The counter of a DIRECTIVE's addressing (R35). -/
def addressCounter (a : Bool × Bool) : PartCounter :=
  if a.1 then .directivesTaken else if a.2 then .directivesPassed else .directivesUnaddressed

/-- The head frame is handed on to consumers. -/
def State.handTo (cs : List Consumer) (s : State) : State := s.setPort { s.port with handed := cs }

/-- Dispatch hands the head frame on (R31 to R37); a directive counts here (DEDUCED, log 38). A frame already handed on
stays until its consumers have taken it. -/
def State.dispatchHead (s : State) : State :=
  match s.port.intake, s.port.handed with
  | f :: _, [] =>
    match frameKind f.bytes with
    | some .audio => s.handTo [.admission]
    | some .parity => s.handTo [.parity]
    | some .beat => s.handTo [.timeLock]
    | some .directive =>
      let a := s.ident.addresses (frameKey f.bytes)
      let s1 := s.bump (addressCounter a)
      if (consumersOf a).isEmpty then s1.setPort s1.port.freeHead else s1.handTo (consumersOf a)
    | some .report | some .notice | none => (s.bump .wrongDirection).setPort s.port.freeHead
  | _, _ => s

/-- The head frame, when `c` is the consumer that is to take it now. -/
def Port.offered (p : Port) (c : Consumer) : Option InFrame :=
  match p.intake, p.handed with
  | f :: _, d :: _ => if d = c then some f else none
  | _, _ => none

/-- A consumer takes the head frame: its buffer is freed when no other has still to take it (R31). The consumer's own
work is given as `k`, run on the frame. -/
def State.take (c : Consumer) (k : InFrame → State → State) (s : State) : State :=
  match s.port.offered c with
  | none => s
  | some f =>
    let rest := s.port.handed.tail
    k f (if rest.isEmpty then s.setPort s.port.freeHead else s.handTo rest)

end Sys2Proof.Machine
end

