-- ==== Sys2Proof/Machine/Store.lean ====
section
/-! DEFINITION. Admission of AUDIO frames (04_the_frame_store.md, 03_streams.md): the ordered tests of R75, what acceptance does
(R83, R84), and the re-anchor (R51, R52). -/

namespace Sys2Proof.Machine

/-! ## Readers' latencies, as admission reads them (R108, R109) -/

/-- The lane latency of a channel (R106). -/
def Lanes.latencyOf (l : Lanes) (c : Fin 8) : Nat := l.latency[c.val / 2]

/-- The readers of a channel whose source names a stream, with the latency of their lane. -/
def Channel.readersOf (ch : Channel) (c i : Fin 8) (lat : Nat) : List (ReaderId × Nat) :=
  (if names ch.primarySrc i then [(.primary c, lat)] else []) ++ (if names ch.overlaySrc i then [(.overlay c, lat)] else [])

/-- The reader set of a stream in the order of R109, with latencies. -/
def State.readerSet (s : State) (i : Fin 8) : List (ReaderId × Nat) :=
  eight.flatMap (fun c => (s.channel c).readersOf c i (s.lanes.latencyOf c))

/-- Whether the stream's virtual reader stands in (R108). -/
def State.standsIn (s : State) (i : Fin 8) : Bool := (s.stream i).localPlay && (s.readerSet i).isEmpty

/-- The readers that stand for a stream: its reader set, or its virtual reader with latency 0 (R106, R109). -/
def State.standing (s : State) (i : Fin 8) : List (ReaderId × Nat) :=
  if s.standsIn i then [(.virtual i, 0)] else s.readerSet i

/-- The first of the readers whose latency is best by `better`. -/
def firstBest (better : Nat → Nat → Bool) : List (ReaderId × Nat) → Option (ReaderId × Nat)
  | [] => none
  | r :: rs => some (rs.foldl (fun best x => if better x.2 best.2 then x else best) r)

/-- The lead: the first reader of latency Λ_max (R109). -/
def State.lead (s : State) (i : Fin 8) : Option ReaderId :=
  (firstBest (fun x b => decide (b < x)) (s.standing i)).map (·.1)

/-- The trail: the first reader of latency Λ_min (R109). -/
def State.trail (s : State) (i : Fin 8) : Option ReaderId :=
  (firstBest (fun x b => decide (x < b)) (s.standing i)).map (·.1)

/-- Λ_max, 0 for a relay-only stream with no reader (R109). -/
def State.latencyMax (s : State) (i : Fin 8) : Nat := (s.standing i).foldl (fun m r => max m r.2) 0

/-- Λ_min: the latency of the trail (R109). -/
def State.latencyMin (s : State) (i : Fin 8) : Nat :=
  match firstBest (fun x b => decide (x < b)) (s.standing i) with
  | some r => r.2
  | none => 0

/-! ## The tests (R75 to R82) -/

/-- The stream outside IDLE that holds a key (R76). -/
def State.streamOfKey (s : State) (key : BitVec 16) : Option (Fin 8) :=
  eight.find? (fun i => (s.stream i).state != .idle && (s.stream i).key == key)

/-- What the ordered tests of R75 give for a frame: a refusal, a stamp mismatch still to be judged by R51 or R52, or
acceptance on one of the three paths. -/
inductive Verdict where
  | refuse (r : StreamCounter)
  | mismatch
  | anchored
  | unanchored
  | relayOnly
deriving DecidableEq, Repr

/-- The path of a frame (R76). -/
inductive Path where
  | refused (r : StreamCounter)
  | anchored (an : Anchor)
  | unanchored
  | relayOnly
deriving DecidableEq, Repr

/-- The state test (R76). An IDLE stream has no key to be found by; the estimate's absence in a running stream, which no
run reaches, refuses NOT_LOCKED as R16 says of frames that would need it (DESIGN CHOICE, log 21). -/
def State.pathOf (s : State) (i : Fin 8) : Path :=
  let st := s.stream i
  match st.state with
  | .idle | .loaded => .refused .closed
  | .ended => .refused .afterEnd
  | .listening =>
    if st.localPlay then
      if s.tlu.timeState = .locked then .unanchored else .refused .notLocked
    else .relayOnly
  | .primed | .playing | .draining =>
    if s.tlu.hasEstimate then
      match st.anchor with
      | some an => .anchored an
      | none => .unanchored
    else .refused .notLocked

/-- The window test (R78): the refusal of the first check that applies. -/
def Stream.windowTest (st : Stream) (an : Anchor) (q : Seq) : Option StreamCounter :=
  if seqPrecedes q an.base then some .late
  else if !inWindow st.depth an.base q then some .ahead
  else if seqFollowsOpt q st.endSeq then some .afterEnd
  else if seqFollowsOpt q st.secondBreak then some .segmentLimit
  else
    match st.pendingAnchor with
    | some pa => if st.isPending q && seqPrecedes q pa.b then some .late else none
    | none => none

/-- The slot test (R79). -/
def Stream.slotTest (st : Stream) (an : Anchor) (q : Seq) : Option StreamCounter :=
  match (st.slotOf an q).state with
  | .empty | .recovering => none
  | .filled | .recovered => some .duplicate
  | .missed => some .late

/-- Whether a stamp is within the tolerance of the expected one (R49). -/
def Stream.stampOk (st : Stream) (stamp expected : Time) : Bool := decide ((signed48 stamp expected).natAbs ≤ st.tol)

/-- The stamp test passes (R80): against A in the current segment, against A' in the pending one, unchecked while the
pending anchor is absent. -/
def Stream.stampTest (st : Stream) (an : Anchor) (q : Seq) (stamp : Time) : Bool :=
  if st.isPending q then
    match st.pendingAnchor with
    | some pa => st.stampOk stamp (st.expectedStamp pa.a (pa.index q))
    | none => true
  else st.stampOk stamp (st.expectedStamp an.a (an.index q))

/-- The time test (R81). -/
def State.timeTest (s : State) (i : Fin 8) (stamp arrival : Time) : Option StreamCounter :=
  match s.tlu.htEst arrival with
  | none => some .notLocked
  | some h =>
    if signed48 (stamp - BitVec.ofNat 48 (s.latencyMax i)) h ≤ 0 then some .late
    else if ((s.stream i).horizon : Int) < signed48 stamp h then some .early
    else none

/-- The store test for k cells (R82). -/
def State.storeTest (s : State) (i : Fin 8) : Option StreamCounter :=
  if !s.quotaAllows i (s.stream i).k then some .quota
  else if !s.poolAllows (s.stream i).k then some .storeFull
  else none

/-- The first refusal of an ordered list of tests. -/
def firstRefusal (tests : List (Option StreamCounter)) (pass : Verdict) : Verdict :=
  match tests.findSome? id with
  | some r => .refuse r
  | none => pass

/-- The tests of R75 on a frame of stream `i`, in their order. -/
def State.audioVerdict (s : State) (i : Fin 8) (f : InFrame) : Verdict :=
  let st := s.stream i
  let q := frameSeq f.bytes
  let stamp := frameStamp f.bytes
  let size := if framePayloadLength f.bytes = st.frameWords * 3 then none else some .sizeMismatch
  match s.pathOf i with
  | .refused r => .refuse r
  | .relayOnly => firstRefusal [size, s.storeTest i] .relayOnly
  | .unanchored => firstRefusal [size, s.timeTest i stamp f.arrival, s.storeTest i] .unanchored
  | .anchored an =>
    match [size, st.windowTest an q, st.slotTest an q].findSome? id with
    | some r => .refuse r
    | none =>
      if st.stampTest an q stamp then firstRefusal [s.timeTest i stamp f.arrival, s.storeTest i] .anchored
      else .mismatch

/-! ## Acceptance (R83, R84) -/

/-- The stream anchors on a frame (R50); a stream awaiting a new anchor keeps its state (R58). -/
def Stream.anchorOn (st : Stream) (stamp : Time) (q : Seq) : Stream :=
  { st with
    anchor := some ⟨stamp, q, 0, q, q.toNat % st.depth⟩
    mismatchRun := 0
    missedRun := 0
    state := if st.state = .listening then .primed else st.state }

/-- The words of a frame in the stream's k cells (R83). -/
def Stream.frameCells (st : Stream) (bytes : List Byte) : List (List Word) :=
  cellsOf (payloadWords (framePayload bytes)) st.k

/-- The segment and extended index of an accepted frame (R49, R57). -/
def Stream.placeOf (st : Stream) (an : Anchor) (q : Seq) : Segment × Nat :=
  if st.isPending q then
    match st.pendingAnchor with
    | some pa => (.pending, pa.index q)
    | none => (.pending, 0)
  else (.current, an.index q)

/-- LAST takes effect (R53). -/
def Stream.takeLast (st : Stream) (q : Seq) : Stream :=
  let moves := match st.endSeq with
    | none => true
    | some e => seqPrecedes q e
  if moves then
    { st with endSeq := some q, state := if st.state = .playing then .draining else st.state }
  else st

/-- Whether a BREAK at `q` is honoured: no slot held or being rebuilt follows it (R56). -/
def Stream.breakHonoured (st : Stream) (q : Seq) : Bool :=
  !st.ring.any (fun sl => (sl.good || sl.state == .recovering) && seqFollows sl.seq q)

/-- A frame of the pending segment sets the pending anchor while it is absent (R57). -/
def Stream.setPendingAnchor (st : Stream) (stamp : Time) (q : Seq) : Stream :=
  if st.isPending q && st.pendingAnchor.isNone then { st with pendingAnchor := some ⟨stamp, q⟩ } else st

/-- BREAK takes effect, or is counted in BREAKS_IGNORED (R56). A BREAK that is honoured while a break sequence it does
not follow is present has no line in R56 and cannot come, for that break's own slot is held; it counts as ignored
(DESIGN CHOICE, log 23). The holder test follows an honoured BREAK (R97). -/
def State.takeBreak (i : Fin 8) (q : Seq) (s : State) : State :=
  let st := s.stream i
  if st.breakHonoured q then
    match st.breakSeq with
    | none => (s.setStream i { st with breakSeq := some q }).holderTest i
    | some k =>
      if seqFollows q k then (s.setStream i { st with secondBreak := some q }).holderTest i
      else s.bumpStream i .breaksIgnored
  else s.bumpStream i .breaksIgnored

/-- The frame's continuity takes effect (R83 step 5): 1 LAST, 2 BREAK (R30). -/
def State.takeContinuity (i : Fin 8) (bytes : List Byte) (s : State) : State :=
  let q := frameSeq bytes
  let s1 := s.setStream i ((s.stream i).setPendingAnchor (frameStamp bytes) q)
  match frameContinuity bytes with
  | 1 => s1.setStream i ((s1.stream i).takeLast q)
  | 2 => s1.takeBreak i q
  | _ => s1

/-- A frame on the anchored or unanchored path is accepted (R83); `an` is the anchor in force for it. -/
def State.acceptAt (i : Fin 8) (an : Anchor) (f : InFrame) (s : State) : State :=
  let q := frameSeq f.bytes
  let r := s.alloc (some i) ((s.stream i).frameCells f.bytes)
  let s1 := r.2
  let st := s1.stream i
  let place := st.placeOf an q
  let slot : Slot := ⟨.filled, q, place.1, place.2, r.1⟩
  let s2 := (s1.setStream i { st.putSlot (an.position st.depth q) slot with mismatchRun := 0 }).bumpStream i .accepted
  let s3 := (s2.takeContinuity i f.bytes).holderTestFor i q
  if (s3.stream i).relay then s3.offerCopy .audio (some i) f.bytes (.shared r.1) else s3

/-- A frame on the unanchored path is accepted: it anchors the stream first (R83 step 1, R50). -/
def State.acceptUnanchored (i : Fin 8) (f : InFrame) (s : State) : State :=
  let q := frameSeq f.bytes
  let st := (s.stream i).anchorOn (frameStamp f.bytes) q
  let s1 := (s.setStream i st).bumpStream i .anchors
  match st.anchor with
  | some an => s1.acceptAt i an f
  | none => s1

/-- A frame on the relay-only path is accepted and offered for relay (R84). -/
def State.acceptRelayOnly (i : Fin 8) (f : InFrame) (s : State) : State :=
  (s.bumpStream i .accepted).offerCopy .audio (some i) f.bytes (.owned i ((s.stream i).frameCells f.bytes))

/-- A verdict other than a mismatch is carried out. -/
def State.carryOut (i : Fin 8) (f : InFrame) (v : Verdict) (s : State) : State :=
  match v with
  | .refuse r => s.bumpStream i r
  | .unanchored => s.acceptUnanchored i f
  | .relayOnly => s.acceptRelayOnly i f
  | .anchored =>
    match (s.stream i).anchor with
    | some an => s.acceptAt i an f
    | none => s
  | .mismatch => s

/-- A failed stamp check: refused while the run is below 3 (R51), else the stream re-anchors and the frame is judged
again as a frame of a LISTENING stream (R52). -/
def State.stampFails (i : Fin 8) (f : InFrame) (s : State) : State :=
  let st := s.stream i
  if st.mismatchRun < 3 then
    (s.setStream i { st with mismatchRun := st.mismatchRun + 1 }).bumpStream i .stampMismatch
  else
    let s1 := s.reanchor i
    s1.carryOut i f (s1.audioVerdict i f)

/-- Admission of an AUDIO frame (R75). -/
def State.admitAudio (f : InFrame) (s : State) : State :=
  match s.streamOfKey (frameKey f.bytes) with
  | none => s.bump .unknownKey
  | some i =>
    match s.audioVerdict i f with
    | .mismatch => s.stampFails i f
    | v => s.carryOut i f v

end Sys2Proof.Machine
end

