-- ==== Sys2Proof/Machine/Parity.lean ====
section
/-! DEFINITION. The Parity Unit (05_parity_recovery.md): admission of PARITY frames, the start of a recovery operation and its
completion. The holder test stands in Rings.lean. -/

namespace Sys2Proof.Machine

/-- The path of a PARITY frame (R92). -/
inductive ParityPath where
  | refused
  | anchored (an : Anchor)
  | relayOnly
deriving DecidableEq, Repr

/-- The state test (R92). -/
def Stream.parityPath (st : Stream) : ParityPath :=
  match st.localPlay, st.running, st.anchor with
  | true, true, some an => .anchored an
  | true, _, _ => .refused
  | false, _, _ => if st.state = .listening then .relayOnly else .refused

/-- The window test on a group (R93): first sequence `f`, group size `g`. -/
def Stream.parityWindowTest (st : Stream) (an : Anchor) (f : Seq) (g : Nat) : Option StreamCounter :=
  let l := f + BitVec.ofNat 16 g - 1
  if seqPrecedes f an.base then some .parityLate
  else if decide (st.depth ≤ (l - an.base).toNat) then some .parityAhead
  else if seqFollowsOpt l st.endSeq then some .parityAfterEnd
  else if st.isPending l then some .parityAhead
  else none

/-- The store test on a parity frame (R94). -/
def State.parityStoreTest (s : State) (i : Fin 8) : Option StreamCounter :=
  if !s.quotaAllows i (s.stream i).k then some .parityQuota
  else if !s.poolAllows (s.stream i).k then some .parityStoreFull
  else none

/-- The group size and size tests (R92). -/
def Stream.paritySizeTests (st : Stream) (bytes : List Byte) : List (Option StreamCounter) :=
  [ if st.g = 0 ∨ frameGroup bytes ≠ st.g then some .parityNoParity else none
  , if framePayloadLength bytes = st.frameWords * 3 then none else some .paritySizeMismatch ]

/-- The refusal of a PARITY frame of stream `i`, if any (R91). -/
def State.parityRefusal (s : State) (i : Fin 8) (bytes : List Byte) : Option StreamCounter :=
  let st := s.stream i
  match st.parityPath with
  | .refused => some .parityNotAnchored
  | .relayOnly => (st.paritySizeTests bytes ++ [s.parityStoreTest i]).findSome? id
  | .anchored an =>
    (st.paritySizeTests bytes ++ [st.parityWindowTest an (frameSeq bytes) st.g, s.parityStoreTest i]).findSome? id

/-- The relay copy of a parity frame that has no holder's cells (R95). -/
def State.offerParity (i : Fin 8) (bytes : List Byte) (s : State) : State :=
  if (s.stream i).relay then
    s.offerCopy .parity (some i) bytes (.owned i ((s.stream i).frameCells bytes))
  else s

/-- An older parity leaves the holder (R94). -/
def State.replaceParity (i : Fin 8) (s : State) : State :=
  match (s.stream i).holder with
  | none => s
  | some _ => (s.emptyHolder i).bumpStream i .parityReplaced

/-- The parity enters the holder, the holder test follows, and the copy is offered for relay (R94, R95, R97). The relay
entry holds the holder's cells; when the test has already emptied the holder there are none to hold, which R94's own
examination of the group rules out. -/
def State.enterHolder (i : Fin 8) (bytes : List Byte) (s : State) : State :=
  let s1 := s.replaceParity i
  let r := s1.alloc (some i) ((s1.stream i).frameCells bytes)
  let s2 := r.2.setStream i { r.2.stream i with holder := some ⟨frameSeq bytes, (r.2.stream i).g, r.1⟩ }
  let s3 := s2.holderTest i
  if (s3.stream i).relay then s3.offerCopy .parity (some i) bytes (.shared r.1) else s3

/-- A PARITY frame that passes on the anchored path (R94). -/
def State.acceptParity (i : Fin 8) (an : Anchor) (bytes : List Byte) (s : State) : State :=
  let st := s.stream i
  let slots := (groupSeqs (frameSeq bytes) st.g).map (st.slotOf an)
  if slots.any (fun sl => sl.state == .missed) then (s.bumpStream i .parityExpired).offerParity i bytes
  else if slots.all Slot.good then (s.bumpStream i .groupComplete).offerParity i bytes
  else s.enterHolder i bytes

/-- Parity admission (R91 to R95). -/
def State.admitParity (f : InFrame) (s : State) : State :=
  match s.streamOfKey (frameKey f.bytes) with
  | none => s.bump .parityUnknownKey
  | some i =>
    match s.parityRefusal i f.bytes with
    | some r => s.bumpStream i r
    | none =>
      let s1 := s.bumpStream i .parityAccepted
      match (s.stream i).parityPath with
      | .anchored an => s1.acceptParity i an f.bytes
      | .relayOnly => s1.offerParity i f.bytes
      | .refused => s1

/-! ## The recovery operation (R99 to R103) -/

/-- The one EMPTY sequence of a group. -/
def Stream.missingSeq (st : Stream) (an : Anchor) (h : ParityHolder) : Option Seq :=
  (groupSeqs h.first h.g).find? (fun q => (st.slotOf an q).state == .empty)

/-- A request whose start fails the quota or pool test: the parity in the holder is discarded (R99). -/
def State.noStore (i : Fin 8) (s : State) : State := (s.emptyHolder i).bumpStream i .recoveryNoStore

/-- The operation starts (R100): the output cells are allocated, the parity cells move to it, and the target becomes
RECOVERING. -/
def State.beginRecovery (i : Fin 8) (an : Anchor) (h : ParityHolder) (q : Seq) (s : State) : State :=
  let r := s.alloc (some i) (List.replicate (s.stream i).k (cellOf []))
  let s1 := r.2
  let st := s1.stream i
  let p := an.position st.depth q
  let op : RecoveryOp :=
    { stream := some i, target := q, position := p, operands := (groupSeqs h.first h.g).filter (fun x => x != q)
      nWords := st.frameWords, parityCells := h.cells, outCells := r.1, start := s1.lc
      duration := h.g * st.frameWords + 8 }
  { s1.setStream i { st.putSlot p ⟨.recovering, q, .current, an.index q, []⟩ with holder := none } with
    recovery := some op }

/-- A recovery start (R99): with no operation in flight, the head request is taken. One request is taken in one event; a
next request waits for the next start (DEDUCED, log 14). -/
def State.startRecovery (s : State) : State :=
  match s.recovery, s.requests with
  | none, i :: rest =>
    let s1 := { s with requests := rest }
    let st := s1.stream i
    match st.holder, st.anchor with
    | some h, some an =>
      match st.missingSeq an h with
      | some q => if s1.quotaAllows i st.k && s1.poolAllows st.k then s1.beginRecovery i an h q else s1.noStore i
      | none => s1
    | _, _ => s1
  | _, _ => s

/-- The words of the frame a slot holds. -/
def Pool.frame (p : Pool) (cells : List Nat) (n : Nat) : List Word := (p.wordsOf cells).take n

/-- Word-by-word exclusive-or. -/
def xorWords (a b : List Word) : List Word := List.zipWith (· ^^^ ·) a b

/-- The output words of an operation (R101): the parity's words and those of every operand slot, exclusive-ored. -/
def State.recoveredWords (s : State) (i : Fin 8) (op : RecoveryOp) : List Word :=
  match (s.stream i).anchor with
  | none => []
  | some an =>
    op.operands.foldl
      (fun acc q => xorWords acc (s.pool.frame ((s.stream i).slotOf an q).cells op.nWords))
      (s.pool.frame op.parityCells op.nWords)

/-- The target takes the output cells over and becomes RECOVERED (R103). The words of R101 are computed here, at the end of the
operation (DESIGN CHOICE, log 27). -/
def State.placeRecovered (i : Fin 8) (op : RecoveryOp) (s : State) : State :=
  let s1 := { s with pool := s.pool.write op.outCells (s.recoveredWords i op) }
  let st := s1.stream i
  (s1.setStream i (st.putSlot op.position
    { st.slotAt op.position with state := .recovered, cells := op.outCells })).bumpStream i .recovered

/-- The completion of an operation (R103). -/
def State.completeRecovery (op : RecoveryOp) (s : State) : State :=
  let s0 := { s with recovery := none }
  match op.stream with
  | none => (s0.release op.outCells).release op.parityCells
  | some i =>
    if s.targetRecovering i op then
      (((s0.placeRecovered i op).release op.parityCells)).holderTestFor i op.target
    else
      ((((s0.release op.outCells).bumpStream i .recoveryDiscarded).release op.parityCells)).holderTestFor i op.target

/-- A recovery completion, due the operation's duration after its start (R100, R103). -/
def State.endRecovery (s : State) : State :=
  match s.recovery with
  | none => s
  | some op => if op.duration ≤ ticksSince s.lc op.start then s.completeRecovery op else s

end Sys2Proof.Machine
end

