-- ==== Sys2Proof/Machine/Readers.lean ====
section
/-! DEFINITION. The Reader Unit (06_readers_and_resampling.md): a reader's position, its crossing and the segment switch, the entry
of frames with marks, retirement and rebase, sample values and interpolation, and the end of a stream (R55). -/

namespace Sys2Proof.Machine

/-! ## Reader records -/

/-- The stream and stream channel a reader reads; none when it is not taken (R106, R108, R110). -/
def State.readerSource (s : State) : ReaderId → Option (Fin 8 × Fin 8)
  | .primary c => (s.channel c).primarySrc.map (fun sr => (sr.stream, sr.chan))
  | .overlay c => (s.channel c).overlaySrc.map (fun sr => (sr.stream, sr.chan))
  | .virtual i => if s.standsIn i then some (i, 0) else none

/-- A reader's latency Λ (R106). -/
def State.readerLatency (s : State) : ReaderId → Nat
  | .primary c => s.lanes.latencyOf c
  | .overlay c => s.lanes.latencyOf c
  | .virtual _ => 0

/-- Where a reader stands. -/
def State.readerPos (s : State) : ReaderId → ReaderPos
  | .primary c => (s.channel c).primaryPos
  | .overlay c => (s.channel c).overlayPos
  | .virtual i => (s.stream i).virt

/-- A reader's place replaced. -/
def State.setReaderPos (r : ReaderId) (p : ReaderPos) (s : State) : State :=
  match r with
  | .primary c => s.setChannel c { s.channel c with primaryPos := p }
  | .overlay c => s.setChannel c { s.channel c with overlayPos := p }
  | .virtual i => s.setStream i { s.stream i with virt := p }

/-! ## Segments, sequences and limits -/

/-- The time a reader's position is measured from (R111). -/
def Stream.anchorTime (st : Stream) : Segment → Option Time
  | .current => st.anchor.map (·.a)
  | .pending => st.pendingAnchor.map (·.a)

/-- The sequence of the frame at an extended index of a segment (R113). -/
def Stream.seqAt (st : Stream) (seg : Segment) (e : Nat) : Option Seq :=
  match seg with
  | .current => st.anchor.map (fun an => an.b + BitVec.ofNat 16 e)
  | .pending => st.pendingAnchor.map (fun pa => pa.b + BitVec.ofNat 16 e)

/-- The extended index of a sequence in a segment (R49, R113). -/
def Stream.indexIn (st : Stream) (seg : Segment) (q : Seq) : Option Nat :=
  match seg with
  | .current => st.anchor.map (fun an => an.index q)
  | .pending => st.pendingAnchor.map (fun pa => pa.index q)

/-- The end frame's extended index, when the end lies in the segment (R113). -/
def Stream.endIndex (st : Stream) (seg : Segment) : Option Nat :=
  match st.endSeq with
  | none => none
  | some q => if st.isPending q = (seg == .pending) then st.indexIn seg q else none

/-- The extended index of the frame that closes the segment: the break in the current one, the second break in the
pending one (R113). -/
def Stream.closeIndex (st : Stream) : Segment → Option Nat
  | .current => st.breakSeq.bind (st.indexIn .current)
  | .pending => st.secondBreak.bind (st.indexIn .pending)

/-- Whether an index exceeds a limit that is present. -/
def exceeds (e : Nat) (limit : Option Nat) : Bool :=
  match limit with
  | none => false
  | some l => decide (l < e)

/-- Whether frame `e` follows the end or the closing break of its segment (R120, R122). -/
def Stream.beyond (st : Stream) (seg : Segment) (e : Nat) : Bool :=
  exceeds e (st.endIndex seg) || exceeds e (st.closeIndex seg)

/-- The slot of frame `e` when it lies in the window (R117). -/
def Stream.slotInWindow (st : Stream) (seg : Segment) (e : Nat) : Option Slot :=
  match st.anchor, st.seqAt seg e with
  | some an, some q => if inWindow st.depth an.base q then some (st.slotOf an q) else none
  | _, _ => none

/-- The cells of frame `e` when it is in the window and good. -/
def Stream.goodCells (st : Stream) (seg : Segment) (e : Nat) : Option (List Nat) :=
  match st.slotInWindow seg e with
  | some sl => if sl.good then some sl.cells else none
  | none => none

/-- Whether frame `e` precedes the base (R120). -/
def Stream.beforeBase (st : Stream) (seg : Segment) (e : Nat) : Bool :=
  match st.anchor, st.seqAt seg e with
  | some an, some q => seqPrecedes q an.base
  | _, _ => false

/-! ## Sample values (R120, R122) -/

/-- Which line of R120 fits. -/
inductive ValueLine where
  | outside
  | stored (w : Int)
  | halved (w : Int)
  | silence
deriving DecidableEq, Repr

/-- The line of R120 for frame `e` at offset `o` of a stream channel. -/
def State.valueLine (s : State) (i ch : Fin 8) (seg : Segment) (e o : Nat) : ValueLine :=
  let st := s.stream i
  let word (cells : List Nat) : Int := (s.pool.wordAt cells (o * st.channels + ch.val)).toInt
  if st.channels ≤ ch.val || st.beyond seg e || st.beforeBase seg e then .outside
  else
    match st.goodCells seg e with
    | some cells => .stored (word cells)
    | none =>
      match e with
      | 0 => .silence
      | e' + 1 =>
        match st.goodCells seg e' with
        | some cells => .halved (word cells)
        | none => .silence

/-- The value of a line of R120. -/
def ValueLine.value : ValueLine → Int
  | .outside => 0
  | .stored w => w
  | .halved w => floorDiv w 2
  | .silence => 0

/-- x[j] (R120). -/
def State.sampleAt (s : State) (i ch : Fin 8) (seg : Segment) (j : Nat) : Int :=
  (s.valueLine i ch seg (j / (s.stream i).n) (j % (s.stream i).n)).value

/-- Interpolation with rounding (R122). -/
def interpolate (x x1 : Int) (f : Nat) : Int := x + floorDiv ((x1 - x) * f + 128) 256

/-- The reader's output at position q (R113, R122). -/
def State.outputAt (s : State) (i ch : Fin 8) (seg : Segment) (q : Nat) : Int :=
  let st := s.stream i
  let j := q / 256
  let x := s.sampleAt i ch seg j
  let e := j / st.n
  let x1 :=
    if j % st.n + 1 < st.n then s.sampleAt i ch seg (j + 1)
    else if st.beyond seg (e + 1) || (st.goodCells seg (e + 1)).isNone then x
    else s.sampleAt i ch seg (j + 1)
  interpolate x x1 (q % 256)

/-! ## Losses (R59, R117) -/

/-- A frame the lead entered without finding it good: the MISSED run, MISSED_SLOTS, LOSS, and at 8 the starvation (R59).
The answer says whether the stream starved. -/
def State.countLoss (i : Fin 8) (after : State → State) (s : State) : Bool × State :=
  let st := s.stream i
  let s1 := after (((s.setStream i { st with missedRun := st.missedRun + 1 }).bumpStream i .missedSlots).raiseStream i
    .loss)
  if 8 ≤ st.missedRun + 1 then (true, s1.starve i) else (false, s1)

/-- The lead enters frame `e` (R117). A holder test that a mark brings about is made before a starvation
(DEDUCED, log 33). -/
def State.leadEnters (i : Fin 8) (seg : Segment) (e : Nat) (s : State) : Bool × State :=
  let st := s.stream i
  match st.anchor, st.seqAt seg e with
  | some an, some q =>
    if seqPrecedes q an.base then (false, s)
    else if inWindow st.depth an.base q then
      match (st.slotOf an q).state with
      | .filled | .recovered => (false, s.setStream i { st with missedRun := 0 })
      | .missed => (false, s)
      | .empty | .recovering =>
        (s.setStream i (st.putSlot (an.position st.depth q) ⟨.missed, q, seg, e, []⟩)).countLoss i
          (fun s => s.holderTestFor i q)
    else s.countLoss i id
  | _, _ => (false, s)

/-! ## Retirement and rebase (R62, R87, R125) -/

/-- A position or index reduced, when present (R125). One that lies below the new origin, of a reader not yet taken at the
period, has no value that R106 admits: it becomes absent, and the reader still enters the base frame (DESIGN CHOICE,
log 42). -/
def reduceBy (n : Nat) (x : Option Nat) : Option Nat := x.bind (fun v => if n ≤ v then some (v - n) else none)

/-- A reader of the current segment after a rebase (R125). -/
def ReaderPos.rebase (eBase n : Nat) (p : ReaderPos) : ReaderPos :=
  if p.seg = .current then
    { p with last := reduceBy (eBase * n * 256) p.last, frame := reduceBy eBase p.frame }
  else p

/-- A slot of the current segment after a rebase (R62). -/
def Slot.rebase (eBase : Nat) (sl : Slot) : Slot :=
  if sl.seg = .current && sl.state != .empty then { sl with idx := sl.idx - eBase } else sl

/-- The rebase of R62 and R125. -/
def State.rebase (i : Fin 8) (s : State) : State :=
  let st := s.stream i
  match st.anchor with
  | none => s
  | some an =>
    let an' : Anchor := { an with a := st.expectedStamp an.a an.eBase, b := an.base, eBase := 0 }
    let s1 := s.setStream i { st with anchor := some an', ring := st.ring.map (Slot.rebase an.eBase) }
    (s1.moveReaders i (ReaderPos.rebase an.eBase st.n)).bumpStream i .rebases

/-- The retirement target (R87): e when frame e is in the window and good, else e - 1. -/
def Stream.retireTarget (st : Stream) (e : Nat) : Nat :=
  if (st.goodCells .current e).isSome then e else e - 1

/-- The anchor with the base advanced to index `t` (R87). -/
def Anchor.advanceTo (an : Anchor) (depth t : Nat) : Anchor :=
  { an with base := an.b + BitVec.ofNat 16 t, pBase := (an.pBase + (t - an.eBase)) % depth, eBase := t }

/-- The holder test after a retirement that passes a sequence of the holder's group (R97). -/
def State.holderTestRetired (i : Fin 8) (s : State) : State :=
  match (s.stream i).holder, (s.stream i).anchor with
  | some h, some an => if (groupSeqs h.first h.g).any (fun q => seqPrecedes q an.base) then s.holderTest i else s
  | _, _ => s

/-- Retirement by the trail's entry into frame `e` of the current segment (R87, R118). -/
def State.retire (i : Fin 8) (e : Nat) (s : State) : State :=
  let st := s.stream i
  match st.anchor with
  | none => s
  | some an =>
    let t := st.retireTarget e
    if t ≤ an.eBase then s
    else
      let s1 := s.emptySlots i (fun sl =>
        sl.state != .empty && sl.seg == .current && decide (an.eBase ≤ sl.idx) && decide (sl.idx < t))
      let s2 := s1.setStream i { s1.stream i with anchor := some (an.advanceTo st.depth t) }
      let s3 := if 2 ^ 30 ≤ t then s2.rebase i else s2
      s3.holderTestRetired i

/-! ## Crossing, switch and end (R55, R58, R114, R115) -/

/-- A reader at the switch (R115): one in the pending segment keeps its position in the current one, any other starts
afresh. -/
def ReaderPos.switch (p : ReaderPos) : ReaderPos :=
  if p.seg = .pending then { p with seg := .current } else .fresh

/-- The anchor after a switch to a pending anchor (R58, R74). -/
def Anchor.switchTo (an : Anchor) (depth : Nat) (pa : PendingAnchor) : Anchor :=
  ⟨pa.a, pa.b, 0, pa.b, (an.pBase + (pa.b - an.base).toNat) % depth⟩

/-- A slot that the switch leaves, in the segment that begins at `b` (R58). One of the former pending segment keeps its index.
A MISSED one that was marked before the break was known, and so in the old segment, takes the index that R49 gives its
sequence in the new one (DEDUCED, log 44). -/
def Slot.switchTo (b : Seq) (sl : Slot) : Slot :=
  if sl.seg = .current && sl.state != .empty then { sl with idx := (sl.seq - b).toNat } else { sl with seg := .current }

/-- The stream's own part of the switch (R58). -/
def Stream.switch (st : Stream) : Stream :=
  match st.anchor, st.pendingAnchor with
  | some an, some pa =>
    { st with
      anchor := some (an.switchTo st.depth pa)
      breakSeq := st.secondBreak
      secondBreak := none
      pendingAnchor := none
      ring := st.ring.map (Slot.switchTo pa.b) }
  | _, _ => { st with anchor := none, breakSeq := none, secondBreak := none, pendingAnchor := none }

/-- Whether a sequence has no place in the ring after a switch at the break `k` (R58, R74): it does not follow the break, or it
lies outside the window that begins at b', or there is no window because the pending anchor is absent. The last two concern
only MISSED slots that follow the break, which R58 does not name and R74 has EMPTY (DEDUCED, log 44). -/
def Stream.leftBehind (st : Stream) (k q : Seq) : Bool :=
  !seqFollows q k ||
    match st.pendingAnchor with
    | some pa => !inWindow st.depth pa.b q
    | none => true

/-- The segment switch (R58, R74, R115). -/
def State.switchSegment (i : Fin 8) (s : State) : State :=
  match (s.stream i).breakSeq with
  | none => s
  | some k =>
    let s1 := (s.emptySlots i (fun sl => sl.state != .empty && (s.stream i).leftBehind k sl.seq)).emptyHolder i
    let s2 := s1.setStream i (s1.stream i).switch
    (s2.moveReaders i ReaderPos.switch).bumpStream i .switches

/-- A reader crosses into the pending segment; the trail's crossing switches the stream (R114). A reader that became the
trail by MAP_CHANNEL after it had crossed does not switch the stream: only a crossing does (DESIGN CHOICE, log 39). -/
def State.cross (r : ReaderId) (i : Fin 8) (s : State) : State :=
  let s1 := s.setReaderPos r ⟨.pending, none, none⟩
  if s.trail i = some r then s1.switchSegment i else s1

/-- The end of a stream (R55). -/
def State.endStream (i : Fin 8) (s : State) : State :=
  let s1 := (s.emptySlots i (fun _ => true)).emptyHolder i
  (s1.setStream i { s1.stream i with
    state := .ended
    pendingAnchor := none
    breakSeq := none
    secondBreak := none
    mismatchRun := 0
    missedRun := 0 }).raiseStream i .ended

/-! ## The output period (R110 to R123) -/

/-- A PRIMED stream starts to play when its lead, in the current segment, computes D ≥ 0 (R54, R119). -/
def State.startPlay (r : ReaderId) (i : Fin 8) (seg : Segment) (s : State) : State :=
  let st := s.stream i
  if st.state = .primed ∧ seg = .current ∧ s.lead i = some r then
    s.setStream i { st with state := if st.endSeq.isSome then .draining else .playing }
  else s

/-- The position of R111, before the hold; none when the reader outputs silence (R110, R111 step 3). Without an estimate
no stream is running, and the reader is silent (R16, DESIGN CHOICE, log 21). -/
def State.rawPosition (s : State) (r : ReaderId) (i : Fin 8) (edge : Time) : Option Nat :=
  let st := s.stream i
  match s.tlu.htEst edge, st.anchorTime (s.readerPos r).seg with
  | some h, some a =>
    let d := signed48 (h + BitVec.ofNat 48 (s.readerLatency r)) a
    if st.running && st.localPlay && decide (0 ≤ d) then some (d.toNat * st.fs / 96000) else none
  | _, _ => none

/-- The monotone hold (R112). -/
def holdPosition (last : Option Nat) (q : Nat) : Nat :=
  match last with
  | none => q
  | some l => max l q

/-- Concealment counted at the entry of a mapped reader (R121). -/
def State.countConcealment (r : ReaderId) (i ch : Fin 8) (seg : Segment) (e : Nat) (s : State) : State :=
  match r with
  | .virtual _ => s
  | .primary _ | .overlay _ =>
    match s.valueLine i ch seg e 0 with
    | .halved _ => s.bumpStream i .concealedRepeat
    | .silence => s.bumpStream i .concealedSilence
    | .outside | .stored _ => s

/-- A reader enters frame `e` (R116): as the lead (R117), then as the trail (R118), then its concealment (R121). The
answer says whether the stream starved. -/
def State.enterFrame (r : ReaderId) (i ch : Fin 8) (seg : Segment) (e : Nat) (s : State) : Bool × State :=
  let s1 := s.setReaderPos r { s.readerPos r with frame := some e }
  let l := if s.lead i = some r then s1.leadEnters i seg e else (false, s1)
  if l.1 then l
  else
    let s2 := if s.trail i = some r ∧ seg = .current then l.2.retire i e else l.2
    (false, s2.countConcealment r i ch seg ((s2.readerPos r).frame.getD e) )

/-- The output at the position the reader stands at. -/
def State.readerOutput (r : ReaderId) (i ch : Fin 8) (s : State) : Int :=
  let p := s.readerPos r
  s.outputAt i ch p.seg (p.last.getD 0)

/-- A reader's work in an output period: the sample it hands, and the state after (R110 to R122). `n` bounds the crossings
of one period: a reader crosses, with a switch each time, at most twice. -/
def State.runReader : Nat → ReaderId → Fin 8 → Fin 8 → Time → State → Int × State
  | 0, _, _, _, _, s => (0, s)
  | n + 1, r, i, ch, edge, s =>
    match s.rawPosition r i edge with
    | none => (0, s)
    | some q0 =>
      let p := s.readerPos r
      let q := holdPosition p.last q0
      let s1 := (s.setReaderPos r { p with last := some q }).startPlay r i p.seg
      let st := s1.stream i
      let e := q / 256 / st.n
      if exceeds e (st.endIndex p.seg) then
        (0, if s1.trail i = some r ∧ st.state = .draining then s1.endStream i else s1)
      else if exceeds e (st.closeIndex p.seg) then
        match p.seg with
        | .current => State.runReader n r i ch edge (s1.cross r i)
        | .pending => (0, s1)
      else if p.frame = some e then (s1.readerOutput r i ch, s1)
      else
        let x := s1.enterFrame r i ch p.seg e
        if x.1 then (0, x.2) else (x.2.readerOutput r i ch, x.2)

/-- The output period replaced. -/
def State.setPeriod (s : State) (p : Option OutputPeriod) : State := { s with lanes := { s.lanes with period := p } }

/-- A sample handed to the mixer for a reader's channel and role (R123). -/
def OutputPeriod.hand (p : OutputPeriod) (r : ReaderId) (y : Int) : OutputPeriod :=
  match r with
  | .primary c => { p with yP := p.yP.set c y }
  | .overlay c => { p with yO := p.yO.set c y }
  | .virtual _ => p

/-- The stream and stream channel a reader yet to be taken reads in the period: those its source named at the edge (R107,
R134). -/
def OutputPeriod.dueSource (p : OutputPeriod) (r : ReaderId) : Option (Fin 8 × Fin 8) :=
  p.readersDue.findSome? (fun d => if d.1 = r then some d.2 else none)

/-- A reader that has been taken in the period. -/
def OutputPeriod.served (p : OutputPeriod) (r : ReaderId) : OutputPeriod :=
  { p with readersDue := p.readersDue.filter (fun d => d.1 != r) }

/-- The stream a reader stands for. -/
def State.readerStream (s : State) (r : ReaderId) : Option (Fin 8) := (s.readerSource r).map (·.1)

/-- The work of a reader in the period it is taken in, on the stream `i` and stream channel `ch` that its source named at the
edge (R107, R134). One that has left stream `i` since the edge holds nothing of it (R107): it reads that stream from a fresh
start, neither its lead nor its trail, and the place it has taken up elsewhere stays as it was (DESIGN CHOICE, log 12). -/
def State.takeReader (r : ReaderId) (i ch : Fin 8) (edge : Time) (s : State) : Int × State :=
  if s.readerStream r = some i then s.runReader 4 r i ch edge
  else
    let x := (s.setReaderPos r .fresh).runReader 4 r i ch edge
    (x.1, x.2.setReaderPos r (s.readerPos r))

/-- A reader's output period (R110): once for each reader whose source was present at the period's edge (R134). -/
def State.readerTakes (r : ReaderId) (s : State) : State :=
  match s.lanes.period with
  | none => s
  | some p =>
    match p.dueSource r with
    | none => s
    | some (i, ch) =>
      let x := (s.setPeriod (some (p.served r))).takeReader r i ch p.edge
      x.2.setPeriod (some ((p.served r).hand r x.1))

end Sys2Proof.Machine
end

