-- ==== Sys2Proof/Machine/Lanes.lean ====
section
/-! DEFINITION. Output channels and lanes (07_output_channels_and_lanes.md): targets, ramps, the mix, lane frames and the output
period they belong to, the lane rate, the operating mode's entry and exit, and the items that set channels and lanes. -/

namespace Sys2Proof.Machine

/-! ## Targets, ramps and the mix (R132, R133, R135) -/

/-- Whether a channel's overlay is playing (R132). -/
def State.overlayPlays (s : State) (ch : Channel) : Bool :=
  match ch.overlaySrc with
  | none => false
  | some sr =>
    match (s.stream sr.stream).state with
    | .playing | .draining => true
    | .idle | .loaded | .listening | .primed | .ended => false

/-- A channel is silenced by its mute or force-mute flag (R131). -/
def Channel.silenced (ch : Channel) : Bool := ch.mute || ch.forceMute

/-- The primary and overlay targets (R132). -/
def Channel.targets (ch : Channel) (overlayPlays : Bool) : Nat × Nat :=
  if ch.silenced then (0, 0)
  else if overlayPlays then (ch.gP * ch.duck / 16384, ch.gO)
  else (ch.gP, 0)

/-- One step of an effective gain toward its target, at most 128 (R133). -/
def rampStep (gain target : Nat) : Nat :=
  if gain < target then (if target - gain ≤ 128 then target else gain + 128)
  else (if gain - target ≤ 128 then target else gain - 128)

/-- The mixed value before the clamp (R135). -/
def mixed (yP yO : Int) (eP eO : Nat) : Int := floorDiv (yP * eP + yO * eO) 16384

/-- The clamp to the sample range (R135). -/
def saturate (x : Int) : Int := clampInt x (-8388608) 8388607

/-- A sample placed in the lane frame that begins at `start` (R134 step 4, R136). -/
def placeSample (start : Time) (c : Fin 8) (y : Int) : List LaneFrame → List LaneFrame
  | [] => [⟨start, (Vector.replicate 8 0).set c y⟩]
  | f :: fs => if f.start = start then { f with samples := f.samples.set c y } :: fs else f :: placeSample start c y fs

/-- Whether a reader has still to hand its sample for the period (R134). -/
def OutputPeriod.owes (p : OutputPeriod) (r : ReaderId) : Bool := (p.dueSource r).isSome

/-- The lanes replaced. -/
def State.setLanes (s : State) (l : Lanes) : State := { s with lanes := l }

/-- A channel's clip counts, and CLIP is raised (R135). -/
def State.countClip (c : Fin 8) (s : State) : State :=
  (s.setChannel c { s.channel c with clip := satInc (s.channel c).clip }).raisePart .clip

/-- A channel's event at an output period (R134). -/
def State.mixChannel (c : Fin 8) (p : OutputPeriod) (s : State) : State :=
  let ch := s.channel c
  let t := ch.targets (s.overlayPlays ch)
  let eP := rampStep ch.eP t.1
  let eO := rampStep ch.eO t.2
  let m := mixed p.yP[c] p.yO[c] eP eO
  let s1 := s.setChannel c { ch with eP := eP, eO := eO }
  let s2 := s1.setLanes { s1.lanes with
    queued := placeSample (timeAfter p.edge 512) c (saturate m) s1.lanes.queued }
  if saturate m = m then s2 else s2.countClip c

/-- A channel takes its output period, once both its readers have handed their samples (R134). -/
def State.channelTakes (c : Fin 8) (s : State) : State :=
  match s.lanes.period with
  | none => s
  | some p =>
    if p.channelsDue.contains c && !(p.owes (.primary c)) && !(p.owes (.overlay c)) then
      (s.setPeriod (some { p with channelsDue := p.channelsDue.filter (fun x => x != c) })).mixChannel c p
    else s

/-! ## Frame-clock edges (R136, R137) -/

/-- The output period P in ticks at a lane rate (R136). -/
def periodOf (rate : Nat) : Nat := if rate = 96000 then 256 else 512

/-- Whether an instant is a frame-clock edge (R136). -/
def Lanes.isEdge (l : Lanes) (t : Time) : Bool := t.toNat % periodOf l.rate == 0

/-- Every reader: the primary and overlay readers in channel order, then the virtual readers (R106). -/
def allReaders : List ReaderId := eight.flatMap (fun c => [.primary c, .overlay c]) ++ eight.map .virtual

/-- The readers whose source is present, the standing virtual readers among them, with what each source names (R110). -/
def State.presentReaders (s : State) : List (ReaderId × Fin 8 × Fin 8) :=
  allReaders.filterMap (fun r => (s.readerSource r).map (fun x => (r, x)))

/-- The output period that opens at an edge (R110, R134, R137). -/
def State.newPeriod (s : State) (edge : Time) : OutputPeriod :=
  ⟨edge, s.presentReaders, eight, Vector.replicate 8 0, Vector.replicate 8 0⟩

/-- The lane frame that begins at an edge: the one mixed for it, or zeros (R136, R137, R138). -/
def Lanes.beginFrame (l : Lanes) (edge : Time) : Lanes :=
  { l with
    current := (l.queued.find? (fun f => f.start == edge)).getD ⟨edge, Vector.replicate 8 0⟩
    queued := l.queued.filter (fun f => f.start != edge) }

/-- What an instant brings when it is a frame-clock edge: a lane frame begins, and in ACTIVE an output period opens, in place
of one still unserved (DESIGN CHOICE, log 11). -/
def State.edgeAt (edge : Time) (s : State) : State :=
  if s.lanes.isEdge edge then
    let s1 := s.setLanes (s.lanes.beginFrame edge)
    match s.ident.mode with
    | .active => s1.setPeriod (some (s1.newPeriod edge))
    | .standby => s1
  else s

/-! ## Modes (R137, R138, R187) -/

/-- A channel at the entry to ACTIVE: gains 0 (R137). -/
def Channel.silent (ch : Channel) : Channel := { ch with eP := 0, eO := 0 }

/-- Entry to ACTIVE (R137). -/
def State.enterActive (s : State) : State :=
  { s with ident := { s.ident with mode := .active }, channels := map8 Channel.silent s.channels }

/-- Entry to STANDBY: samples mixed for frames that have not begun are discarded, and output periods end (R138). -/
def State.enterStandby (s : State) : State :=
  { s with
    ident := { s.ident with mode := .standby }
    lanes := { s.lanes with queued := [], period := none } }

/-- Whether a local-play stream needs output periods (R187). -/
def Stream.needsPeriods (st : Stream) : Bool :=
  st.localPlay && (st.running || st.state == .listening)

/-- SET_MODE (R187). -/
def applySetMode (mode : Byte) (s : State) : Except ResultCode State :=
  if mode = 1 then
    match s.ident.mode with
    | .standby => .ok s.enterActive
    | .active => .ok s
  else if mode = 0 then
    match s.ident.mode with
    | .standby => .ok s
    | .active => if eight.any (fun i => (s.stream i).needsPeriods) then .error .wrongState else .ok s.enterStandby
  else .error .badValue

/-! ## MAP_CHANNEL (R107, R108, R128) -/

/-- A source of an item: absent, present, or out of range (R128, R195). -/
inductive SourceField where
  | absent
  | present (sr : Source)
  | outOfRange
deriving DecidableEq, Repr

/-- The source that two bytes name (R128, R195). -/
def readSource (b : SourceBytes) : SourceField :=
  if b.stream = 0xFF then .absent
  else
    match index8 b.stream, index8 b.chan with
    | some i, some c => .present ⟨i, c⟩
    | _, _ => .outOfRange

/-- A source in range, as a channel record holds it. -/
def SourceField.source : SourceField → Option (Option Source)
  | .absent => some none
  | .present sr => some (some sr)
  | .outOfRange => none

/-- A reader's place after its source changes (R107): the same stream keeps it, any other change starts it afresh. -/
def remap (old new : Option Source) (p : ReaderPos) : ReaderPos :=
  match old, new with
  | some o, some n => if o.stream = n.stream then p else .fresh
  | _, _ => .fresh

/-- Every virtual reader that has started or stopped standing in, against the state before, starts afresh (R108). -/
def State.settleVirtual (s before : State) : State :=
  { s with streams := tab8 (fun i =>
      if before.standsIn i = s.standsIn i then s.stream i else { s.stream i with virt := .fresh }) }

/-- A channel with new sources and levels (R107, R128). -/
def Channel.remapped (ch : Channel) (pr ov : Option Source) (gP gO duck : BitVec 16) : Channel :=
  { ch with
    primarySrc := pr
    overlaySrc := ov
    gP := clampNat gP.toNat 0 32767
    gO := clampNat gO.toNat 0 32767
    duck := clampNat duck.toNat 0 16384
    primaryPos := remap ch.primarySrc pr ch.primaryPos
    overlayPos := remap ch.overlaySrc ov ch.overlayPos }

/-- MAP_CHANNEL (R128). The readers due in an output period that is open stay due, each with its source of the edge; a source
made present since is read from the next period (R134). -/
def applyMapChannel (chan : Byte) (primary overlay : SourceBytes) (gP gO duck : BitVec 16) (s : State) :
    Except ResultCode State :=
  match index8 chan, (readSource primary).source, (readSource overlay).source with
  | some c, some pr, some ov =>
    .ok ((s.setChannel c ((s.channel c).remapped pr ov gP gO duck)).settleVirtual s)
  | _, _, _ => .error .badIndex

/-! ## SET_GAIN, SET_MUTE, SET_LANES (R129, R130, R139) -/

/-- A level left as it is by 0xFFFF, otherwise clamped (R129). -/
def newLevel (old : Nat) (v : BitVec 16) (hi : Nat) : Nat := if v = 0xFFFF then old else clampNat v.toNat 0 hi

/-- The channels in a mask changed. -/
def State.updateChannels (mask : BitVec 8) (g : Channel → Channel) (s : State) : State :=
  { s with channels := tab8 (fun c => if maskBit mask c.val then g (s.channel c) else s.channel c) }

/-- SET_GAIN (R129). -/
def applySetGain (mask : BitVec 8) (gP gO duck : BitVec 16) (s : State) : Except ResultCode State :=
  .ok (s.updateChannels mask (fun ch => { ch with
    gP := newLevel ch.gP gP 32767, gO := newLevel ch.gO gO 32767, duck := newLevel ch.duck duck 16384 }))

/-- SET_MUTE (R130). -/
def applySetMute (mask : BitVec 8) (setting : Byte) (s : State) : Except ResultCode State :=
  .ok (s.updateChannels mask (fun ch => { ch with mute := setting != 0 }))

/-- The first instant after `t` that is a multiple of 512 (R139). -/
def nextMultiple (t : Time) : Time := timeAfter t (512 - t.toNat % 512)

/-- SET_LANES (R139). "The same rate" is the rate in force: an item that sets it withdraws a change still waiting, and any
other sets the change anew, at the first multiple of 512 after its own event (DESIGN CHOICE, log 40). -/
def applySetLanes (rate l0 l1 l2 l3 : BitVec 32) (s : State) : Except ResultCode State :=
  if s.ident.mode = .active then .error .wrongState
  else if rate.toNat ≠ 48000 ∧ rate.toNat ≠ 96000 then .error .badValue
  else
    .ok (s.setLanes { s.lanes with
      latency := map4 (fun l : BitVec 32 => clampNat l.toNat 0 491520) #v[l0, l1, l2, l3]
      rateChange := if rate.toNat = s.lanes.rate then none else some (rate.toNat, nextMultiple s.lc) })

/-- A changed lane rate takes effect (R139), in ACTIVE too, when SET_MODE or a wake entered it while the change was waiting; a
lane frame already mixed for an instant that is then no frame-clock edge never begins (DESIGN CHOICE, log 45). -/
def State.changeRate (s : State) : State :=
  match s.lanes.rateChange with
  | none => s
  | some (rate, due) =>
    if reached s.lc due then s.setLanes { s.lanes with rate := rate, rateChange := none } else s

end Sys2Proof.Machine
end

