-- ==== Sys2Proof/Machine/Streams.lean ====
section
/-! DEFINITION. The items that carry a stream through its quiet states: LOAD_STREAM, OPEN_STREAM, CLOSE_STREAM and
UNLOAD_STREAM (03_streams.md, section 3.2), and SET_STORE (R71). -/

namespace Sys2Proof.Machine

/-! ## LOAD_STREAM (R44, R45) -/

/-- The sample rates of R43. -/
def rateAllowed (hz : Nat) : Bool := hz == 32000 || hz == 44100 || hz == 48000 || hz == 88200 || hz == 96000

/-- Cells per frame the parameters ask for (R43). -/
def loadCells (p : LoadParams) : Nat := ceilDiv (p.n.toNat * p.channels.toNat) Config.cellWords

/-- The local-play flag of LOAD_STREAM (R195). -/
def loadLocal (p : LoadParams) : Bool := maskBit p.flags 0

/-- The relay flag of LOAD_STREAM (R195). -/
def loadRelay (p : LoadParams) : Bool := maskBit p.flags 1

/-- The structural fields are all in range (R44, test 3). -/
def loadInRange (p : LoadParams) : Bool :=
  p.key != 0 && rateAllowed p.rate.toNat
    && decide (1 ≤ p.channels.toNat) && decide (p.channels.toNat ≤ 8)
    && decide (16 ≤ p.n.toNat) && decide (p.n.toNat ≤ 480) && decide (p.n.toNat * p.channels.toNat ≤ 480)
    && decide (4 ≤ p.depth.toNat) && decide (p.depth.toNat ≤ 64)
    && decide (4 ≤ p.quota.toNat) && decide (p.quota.toNat ≤ 1024) && decide (2 * loadCells p ≤ p.quota.toNat)
    && p.g != 1 && decide (p.g.toNat ≤ 8) && decide (p.g.toNat ≤ p.depth.toNat)
    && (loadLocal p || loadRelay p)

/-- Whether another record outside IDLE holds a key (R44, test 4). -/
def State.keyInUse (s : State) (i : Fin 8) (key : BitVec 16) : Bool :=
  eight.any (fun j => j != i && (s.stream j).state != .idle && (s.stream j).key == key)

/-- Slots reserved to a record: its ring depth, 0 while IDLE (R72). -/
def Stream.reserved (st : Stream) : Nat := if st.state = .idle then 0 else st.depth

/-- Slots reserved by all eight records (R72). -/
def State.slotsReserved (s : State) : Nat := (eight.map (fun i => (s.stream i).reserved)).sum

/-- The slots free in the pool (R72). -/
def State.slotsFree (s : State) : Nat := Config.slotCount - s.slotsReserved

/-- The tests of R44 after the index, in order; none when the item passes. -/
def State.loadRefusal (s : State) (i : Fin 8) (p : LoadParams) : Option ResultCode :=
  let st := s.stream i
  if st.state != .idle && st.state != .loaded then some .wrongState
  else if !loadInRange p then some .badValue
  else if s.keyInUse i p.key then some .keyInUse
  else if s.slotsFree + st.reserved < p.depth.toNat then some .noSlots
  else if st.state == .loaded && decide (p.quota.toNat < s.pool.charged i) then some .wrongState
  else none

/-- A record loaded with clamped parameters: LOADED, every reserved slot EMPTY, optional fields absent, runs 0; a load
from IDLE starts counters and attention afresh, a reload keeps them (R44, R45). -/
def Stream.load (old : Stream) (p : LoadParams) : Stream :=
  { Stream.idle with
    state := .loaded
    key := p.key
    fs := p.rate.toNat
    channels := p.channels.toNat
    n := p.n.toNat
    depth := p.depth.toNat
    quota := p.quota.toNat
    g := p.g.toNat
    localPlay := loadLocal p
    relay := loadRelay p
    prio := clampNat p.prio.toNat 0 7
    tol := clampNat p.tol.toNat 0 4095
    horizon := clampNat p.horizon.toNat 10 2000 * Config.ticksPerMs
    ring := List.replicate p.depth.toNat Slot.vacant
    counters := if old.state = .idle then Stream.idle.counters else old.counters
    attention := if old.state = .idle then 0 else old.attention }

/-- LOAD_STREAM (R44, R45). -/
def applyLoadStream (p : LoadParams) (s : State) : Except ResultCode State :=
  match index8 p.index with
  | none => .error .badIndex
  | some i =>
    match s.loadRefusal i p with
    | some r => .error r
    | none => .ok (s.setStream i ((s.stream i).load p))

/-! ## OPEN_STREAM, CLOSE_STREAM, UNLOAD_STREAM (R46 to R48) -/

/-- OPEN_STREAM (R46). -/
def applyOpenStream (index : Byte) (s : State) : Except ResultCode State :=
  match index8 index with
  | none => .error .badIndex
  | some i =>
    if (s.stream i).state != .loaded then .error .wrongState
    else if (s.stream i).localPlay && s.ident.mode == .standby then .error .wrongState
    else .ok (s.setStream i { s.stream i with
      state := .listening, anchor := none, mismatchRun := 0, missedRun := 0 })

/-- CLOSE_STREAM (R47): the flush of R60, to LOADED, with no attention code and no count. -/
def applyCloseStream (index : Byte) (s : State) : Except ResultCode State :=
  match index8 index with
  | none => .error .badIndex
  | some i =>
    match (s.stream i).state with
    | .idle | .loaded => .error .wrongState
    | .listening | .primed | .playing | .draining | .ended => .ok (s.flushTo i .loaded)

/-- A relay entry detached from a stream that is unloaded (R48). -/
def RelayEntry.detach (i : Fin 8) (e : RelayEntry) : RelayEntry :=
  if e.stream = some i then { e with stream := none } else e

/-- A transmission detached (R48). -/
def Transmission.detach (i : Fin 8) (t : Transmission) : Transmission :=
  { t with entry := t.entry.map (RelayEntry.detach i) }

/-- The relay entries of a stream detached: they stay queued, and are sent or discarded as before (R48). -/
def Relay.detach (i : Fin 8) (r : Relay) : Relay :=
  { r with
    queues := map4 (fun rq => { rq with entries := rq.entries.map (RelayEntry.detach i) }) r.queues
    tx := r.tx.map (Transmission.detach i) }

/-- The operation in flight detached: its target slot is no longer the stream's (R48, R102). -/
def RecoveryOp.detach (i : Fin 8) (op : RecoveryOp) : RecoveryOp :=
  if op.stream = some i then { op with stream := none } else op

/-- The record of an unloaded stream: IDLE, with its counters and attention set still readable (R48). -/
def Stream.unload (st : Stream) : Stream := { Stream.idle with counters := st.counters, attention := st.attention }

/-- A stream unloaded (R48). -/
def State.unload (i : Fin 8) (s : State) : State :=
  { s with
    streams := s.streams.set i (s.stream i).unload
    pool := s.pool.detach i
    relay := s.relay.detach i
    recovery := s.recovery.map (RecoveryOp.detach i) }

/-- UNLOAD_STREAM (R48). -/
def applyUnloadStream (index : Byte) (s : State) : Except ResultCode State :=
  match index8 index with
  | none => .error .badIndex
  | some i => if (s.stream i).state != .loaded then .error .wrongState else .ok (s.unload i)

/-! ## SET_STORE (R71) -/

/-- SET_STORE: the mark is clamped to 1023, and a mark above the free count raises STORE_LOW (R71). -/
def applySetStore (mark : BitVec 16) (s : State) : Except ResultCode State :=
  let s1 := { s with pool := { s.pool with lowWater := clampNat mark.toNat 0 1023 } }
  .ok (if s1.pool.low then s1.raisePart .storeLow else s1)

end Sys2Proof.Machine
end

