-- ==== Sys2Proof/Machine/Identity.lean ====
section
/-! DEFINITION. Identity and the Line Monitor (10_identity_operating_modes_and_local_lines.md): ASSIGN_NODE, the presence timer,
the samplings of the four lines, detections and their actions, and SET_LINES. -/

namespace Sys2Proof.Machine

/-! ## ASSIGN_NODE and presence (R184, R185) -/

/-- The identity replaced. -/
def State.setIdent (s : State) (d : Identity) : State := { s with ident := d }

/-- Whether a list gives no group twice (R184). -/
def distinct : List NodeId → Bool
  | [] => true
  | g :: gs => !gs.contains g && distinct gs

/-- Whether a value is a room group (R183). -/
def isGroup (g : NodeId) : Bool := decide (0xFF00 ≤ g.toNat) && decide (g.toNat ≤ 0xFFFE)

/-- The presence timer after an assignment (R184). -/
def Identity.timerAfter (d : Identity) (node : NodeId) (now : Time) : Option Time :=
  if d.node = 0 ∧ node ≠ 0 then none
  else if d.node ≠ 0 ∧ node = 0 then some now
  else d.presenceTimer

/-- The identity an ASSIGN_NODE that passes leaves (R184). -/
def Identity.assign (d : Identity) (node : NodeId) (groups : List NodeId) (now : Time) : Identity :=
  { d with
    node := node
    groups := if node = 0 then [] else groups
    presenceTimer := d.timerAfter node now }

/-- ASSIGN_NODE whose serial is this part's: its tests 2 and 3, then its effect (R184). -/
def applyAssignNode (node : NodeId) (groups : List NodeId) (s : State) : Except ResultCode State :=
  if 0xFF00 ≤ node.toNat then .error .badValue
  else if !groups.all isGroup || !distinct groups then .error .badValue
  else .ok (s.setIdent (s.ident.assign node groups s.lc))

/-- The presence timer expires (R185): a PRESENCE notice, and the timer 2 s on from the instant it expired. -/
def State.presenceExpiry (s : State) : State :=
  match s.ident.presenceTimer with
  | none => s
  | some due =>
    if reached s.lc due then
      (s.sendNotice s.presencePayload).setIdent
        { s.ident with presenceTimer := some (timeAfter due Config.presenceInterval) }
    else s

/-! ## Levels (R188) -/

/-- The Line Monitor replaced. -/
def State.setLines (s : State) (l : LineMonitor) : State := { s with lines := l }

/-- The accepted level of a line after a sample (R188): a sample that equals the last one is accepted. -/
def acceptLevel (last accepted : Option Bool) (sample : Bool) : Option Bool :=
  if last = some sample then some sample else accepted

/-- The samples and acceptances of one sampling (R188). -/
def LineMonitor.sample (l : LineMonitor) (levels : BitVec 4) : LineMonitor :=
  { l with
    accepted := tab4 (fun n => acceptLevel l.last[n] l.accepted[n] (maskBit levels n.val))
    last := tab4 (fun n => some (maskBit levels n.val)) }

/-- The unmasked pattern with masked lines and lines of no accepted level shown low (R189). -/
def LineMonitor.pattern (l : LineMonitor) : BitVec 4 :=
  four.foldl (fun p n => if maskBit l.mask n.val && l.accepted[n] == some true then p ||| (1#4 <<< n.val) else p) 0

/-- Whether the accepted level of an unmasked line changed, an establishment apart (R188, R189). -/
def LineMonitor.changed (before after : LineMonitor) : Bool :=
  four.any (fun n => maskBit after.mask n.val && before.accepted[n].isSome && before.accepted[n] != after.accepted[n])

/-- Whether the unmasked pattern is complete and equals the compare pattern (R190). -/
def LineMonitor.matchesNow (l : LineMonitor) : Bool :=
  l.mask != 0 &&
    four.all (fun n => !maskBit l.mask n.val || l.accepted[n] == some (maskBit l.compare n.val))

/-! ## Detections and actions (R131, R189, R191) -/

/-- The force-mute flags of the channels in a mask are set (R131, R191). -/
def State.forceMute (mask : BitVec 8) (s : State) : State :=
  s.updateChannels mask (fun ch => { ch with forceMute := true })

/-- The wake action (R191): a part in STANDBY with wake enabled enters ACTIVE. -/
def State.wake (s : State) : State :=
  if s.lines.wake && s.ident.mode == .standby then s.enterActive.bump .lineWakes else s

/-- A detection (R189, R190): the capture, LINE_EVENTS, the raising of LINE, then the actions of R191. -/
def State.detectLines (s : State) : State :=
  let s1 := s.setLines { s.lines with capture := some s.lines.pattern }
  (((s1.bump .lineEvents).raisePart .line).forceMute s.lines.forceMask).wake

/-- The match is evaluated (R190): its coming to hold is a detection. -/
def State.evaluateMatch (s : State) : State :=
  let holds := s.lines.matchesNow
  let s1 := s.setLines { s.lines with matchHolds := holds }
  if holds && !s.lines.matchHolds then s1.detectLines else s1

/-- The detection of one sampling, in the mode in force (R188 to R190). -/
def State.detectAfter (before : LineMonitor) (s : State) : State :=
  match s.lines.detect with
  | .event => if before.changed s.lines then s.detectLines else s
  | .pattern => s.evaluateMatch

/-- A sampling of the four lines (R188), taken when it is due; the next is due 3072 ticks later. -/
def State.sampleLines (levels : BitVec 4) (s : State) : State :=
  if reached s.lc s.lines.nextSample then
    (s.setLines { s.lines.sample levels with
      nextSample := timeAfter s.lines.nextSample Config.samplingInterval }).detectAfter s.lines
  else s

/-- SET_LINES (R192): in EVENT mode the match no longer holds, in MATCH mode it is evaluated at once. -/
def applySetLines (mask mode compare forceMask wake : Byte) (s : State) : Except ResultCode State :=
  let l : LineMonitor :=
    { s.lines with
      mask := mask.setWidth 4, compare := compare.setWidth 4, forceMask := forceMask, wake := wake != 0 }
  if mode = 0 then .ok (s.setLines { l with detect := .event, matchHolds := false })
  else if mode = 1 then .ok (s.setLines { l with detect := .pattern }).evaluateMatch
  else .error .badValue

end Sys2Proof.Machine
end

