-- ==== Sys2Proof/Machine/Records.lean ====
section
/-! DEFINITION. The eight status and counter records of a QUERY (R24, R66, R89, R141, R159, R168, R186, R193), each laid out as
R196 gives. -/

namespace Sys2Proof.Machine

/-! ## Pieces of a record -/

/-- A flag as one byte: 1 when it holds, 0 when not. R196 gives a size and no coding to the low byte of STORE_STATUS and to
the wake, match and LINE bytes of LINES (DESIGN CHOICE, log 41). -/
def flagByte (b : Bool) : List Byte := leBytes 1 b.toNat

/-- Flags as one byte, the first in bit 0; the bits that R196 names no flag for are 0 (DESIGN CHOICE, log 20). -/
def flagBits (bs : List Bool) : List Byte := leBytes 1 (bs.foldr (fun b n => b.toNat + 2 * n) 0)

/-- An optional value in `n` bytes, sent as zero bytes when absent (R196). -/
def optBytes (n : Nat) (x : Option Nat) : List Byte := leBytes n (x.getD 0)

/-- A 48-bit time in six bytes. -/
def timeBytes (t : Time) : List Byte := leBytes 6 t.toNat

/-- A level in one byte, 0xFF when absent (R196). -/
def levelByte (l : Option Bool) : List Byte :=
  match l with
  | some b => leBytes 1 b.toNat
  | none => leBytes 1 255

/-- The code of an operating mode (R195, R196). -/
def Mode.code : Mode → Nat
  | .standby => 0 | .active => 1

/-- The code of a stream state (R196). -/
def StreamState.code : StreamState → Nat
  | .idle => 0 | .loaded => 1 | .listening => 2 | .primed => 3 | .playing => 4 | .draining => 5 | .ended => 6

/-! ## IDENTITY (R186) -/

/-- The IDENTITY record: 28 bytes. Bits 14 and 15 of the notice mask are kept by no register and sent as 0 (DESIGN CHOICE,
log 20). -/
def State.identityRecord (s : State) : List Byte :=
  leBytes 6 s.ident.serial.toNat ++ leBytes 2 s.ident.node.toNat ++ leBytes 1 s.ident.groups.length
    ++ four.flatMap (fun n => leBytes 2 (s.ident.groups.getD n.val 0).toNat)
    ++ leBytes 1 s.ident.resetCause.code ++ leBytes 2 s.ident.directedResets ++ leBytes 1 s.ident.mode.code
    ++ leBytes 2 s.du.noticeDest.toNat ++ leBytes 2 s.du.noticeMask.toNat ++ leBytes 2 s.du.noticeCount.toNat
    ++ leBytes 1 s.du.reportQueue.length

/-! ## TIME_STATUS (R24) -/

/-- The ticks spent in HOLDOVER so far (R24). -/
def State.holdoverTicks (s : State) : Option Nat :=
  match s.tlu.timeState, s.tlu.holdoverStart with
  | .holdover, some start => some (ticksSince s.lc start)
  | _, _ => none

/-- The TIME_STATUS record: 64 bytes. -/
def State.timeRecord (s : State) : List Byte :=
  let t := s.tlu
  let ht := t.htEst s.lc
  flagBits [t.epoch.isSome, ht.isSome, t.lastBeat.isSome, s.holdoverTicks.isSome]
    ++ leBytes 1 t.timeState.code ++ leBytes 2 t.source.toNat ++ leInt 4 t.allowance
    ++ leBytes 1 (t.gapTimeout / Config.gapUnit) ++ leBytes 2 (t.holdoverLimit / Config.ticksPerSecond)
    ++ optBytes 1 (t.epoch.map BitVec.toNat) ++ leBytes 1 t.regenEpoch.toNat ++ leBytes 2 t.regenSeq.toNat
    ++ leBytes 1 t.window.length ++ leBytes 1 t.strikes ++ leBytes 1 t.lockCount
    ++ timeBytes t.oc ++ timeBytes t.lcc ++ leInt 2 t.rate ++ timeBytes t.lastError ++ timeBytes s.lc
    ++ optBytes 6 (ht.map BitVec.toNat) ++ optBytes 2 (t.lastBeat.map (fun b => b.2.toNat))
    ++ optBytes 6 (t.lastBeat.map (fun b => ticksSince s.lc b.1)) ++ optBytes 6 s.holdoverTicks

/-! ## STREAM_STATUS (R66) -/

/-- A stream's parameters as LOAD_STREAM's body after its index, clamped (R66, R196); the unused bits of the flags byte are
sent as 0 (DESIGN CHOICE, log 20). -/
def Stream.paramBytes (st : Stream) : List Byte :=
  leBytes 2 st.key.toNat ++ leBytes 4 st.fs ++ leBytes 1 st.channels ++ leBytes 2 st.n ++ leBytes 1 st.depth
    ++ leBytes 2 st.quota ++ leBytes 1 st.g ++ flagBits [st.localPlay, st.relay] ++ leBytes 1 st.prio
    ++ leBytes 2 st.tol ++ leBytes 2 (st.horizon / Config.ticksPerMs)

/-- Slots of a ring in one state (R66). -/
def Stream.slotsIn (st : Stream) (x : SlotState) : List Byte := leBytes 1 (st.ring.countP (fun sl => sl.state == x))

/-- The bytes of a STREAM_STATUS record outside IDLE, 60 of them. Bits 5 to 7 of the attention set are sent as 0 (DESIGN
CHOICE, log 20). -/
def State.loadedRecord (s : State) (i : Fin 8) : List Byte :=
  let st := s.stream i
  leBytes 1 i.val
    ++ flagBits [st.anchor.isSome, st.pendingAnchor.isSome, st.breakSeq.isSome, st.secondBreak.isSome, st.endSeq.isSome]
    ++ leBytes 1 st.state.code ++ st.paramBytes ++ leBytes 2 (s.pool.charged i)
    ++ optBytes 6 (st.anchor.map (fun an => an.a.toNat)) ++ optBytes 2 (st.anchor.map (fun an => an.b.toNat))
    ++ optBytes 4 (st.anchor.map (·.eBase)) ++ optBytes 2 (st.anchor.map (fun an => an.base.toNat))
    ++ optBytes 6 (st.pendingAnchor.map (fun pa => pa.a.toNat)) ++ optBytes 2 (st.pendingAnchor.map (fun pa => pa.b.toNat))
    ++ optBytes 2 (st.breakSeq.map BitVec.toNat) ++ optBytes 2 (st.secondBreak.map BitVec.toNat)
    ++ optBytes 2 (st.endSeq.map BitVec.toNat) ++ leBytes 1 st.mismatchRun ++ leBytes 1 st.missedRun
    ++ st.slotsIn .empty ++ st.slotsIn .filled ++ st.slotsIn .recovering ++ st.slotsIn .recovered ++ st.slotsIn .missed
    ++ leBytes 1 st.attention.toNat

/-- Free bytes of an IDLE record, `n` of them from place `start` (DESIGN CHOICE, log 17). -/
def idleBytes (now : Time) (start n : Nat) : List Byte :=
  (List.range n).map (fun j => Config.idleRecordByte now (start + j))

/-- The STREAM_STATUS record: 60 bytes. In an IDLE record every optional field is absent (R43), so its presence byte and those
fields are zero (R196); bits 5 to 7 of its attention set are 0 (DESIGN CHOICE, log 20). Its parameters, cells charged, runs and
slot counts have no meaning (R66) and are free values (DESIGN CHOICE, log 17). -/
def State.streamRecord (s : State) (i : Fin 8) : List Byte :=
  if (s.stream i).state = .idle then
    leBytes 1 i.val ++ leBytes 1 0 ++ leBytes 1 StreamState.idle.code ++ idleBytes s.lc 3 21 ++ leBytes 28 0
      ++ idleBytes s.lc 52 7 ++ leBytes 1 (s.stream i).attention.toNat
  else s.loadedRecord i

/-! ## STORE_STATUS (R89) -/

/-- Cells held by ring slots (R89). -/
def State.slotCells (s : State) : Nat :=
  (eight.map (fun i => ((s.stream i).ring.map (fun sl => sl.cells.length)).sum)).sum

/-- Cells held by parity holders (R89). -/
def State.holderCells (s : State) : Nat :=
  (eight.map (fun i => match (s.stream i).holder with
    | some h => h.cells.length
    | none => 0)).sum

/-- Cells held by relay entries, queued or in transmission (R89, R154). -/
def State.relayCells (s : State) : Nat :=
  ((s.relay.txEntry ++ four.flatMap (fun q => (s.relay.queue q).entries)).map (fun e => e.cells.length)).sum

/-- Cells held by the recovery operation (R89, R90). -/
def State.operationCells (s : State) : Nat :=
  match s.recovery with
  | some op => op.parityCells.length + op.outCells.length
  | none => 0

/-- Cells held and owned by no stream (R89). -/
def Pool.unowned (p : Pool) : Nat := p.held.countP (fun c => c.owner.isNone)

/-- The STORE_STATUS record: 43 bytes. -/
def State.storeRecord (s : State) : List Byte :=
  leBytes 2 s.pool.free ++ leBytes 2 s.pool.leastFree ++ leBytes 2 s.pool.lowWater ++ flagByte s.pool.low
    ++ leBytes 2 s.slotCells ++ leBytes 2 s.holderCells ++ leBytes 2 s.relayCells ++ leBytes 2 s.operationCells
    ++ leBytes 2 s.pool.unowned ++ leBytes 2 s.slotsFree
    ++ eight.flatMap (fun i => leBytes 1 (s.stream i).reserved ++ leBytes 2 (s.pool.charged i))

/-- The least free count restarts at the current free count (R89). -/
def State.restartLeast (s : State) : State := { s with pool := { s.pool with leastFree := s.pool.free } }

/-! ## CHANNEL_STATUS (R126, R141) -/

/-- A source as two bytes; the channel byte of an absent source is ignored by its reader and free
(R195; DESIGN CHOICE, log 16). -/
def sourceBytes (now : Time) (place : Nat) (src : Option Source) : List Byte :=
  match src with
  | some sr => leBytes 1 sr.stream.val ++ leBytes 1 sr.chan.val
  | none => [0xFF, Config.absentSourceChannel now place]

/-- Whether a reader whose source names a stream is that stream's lead, and its trail (R126). -/
def State.ranks (s : State) (r : ReaderId) (src : Option Source) : Bool × Bool :=
  match src with
  | some sr => (s.lead sr.stream == some r, s.trail sr.stream == some r)
  | none => (false, false)

/-- A reader's part of the record (R126): 13 bytes. -/
def State.readerBytes (s : State) (r : ReaderId) (src : Option Source) (p : ReaderPos) : List Byte :=
  flagBits [p.seg == .pending, p.last.isSome, p.frame.isSome, (s.ranks r src).1, (s.ranks r src).2]
    ++ optBytes 8 p.last ++ optBytes 4 p.frame

/-- A channel's part of the record (R141): 49 bytes. -/
def State.channelBytes (s : State) (c : Fin 8) : List Byte :=
  let ch := s.channel c
  let t := ch.targets (s.overlayPlays ch)
  sourceBytes s.lc (2 * c.val) ch.primarySrc ++ sourceBytes s.lc (2 * c.val + 1) ch.overlaySrc
    ++ leBytes 2 ch.gP ++ leBytes 2 ch.gO ++ leBytes 2 ch.duck ++ flagBits [ch.mute, ch.forceMute]
    ++ leBytes 2 t.1 ++ leBytes 2 t.2 ++ leBytes 2 ch.eP ++ leBytes 2 ch.eO ++ leBytes 4 ch.clip
    ++ s.readerBytes (.primary c) ch.primarySrc ch.primaryPos ++ s.readerBytes (.overlay c) ch.overlaySrc ch.overlayPos

/-- The CHANNEL_STATUS record: 412 bytes. The lane rate is the one in force at that instant; a rate that waits is not yet the
lanes' (R139). -/
def State.channelRecord (s : State) : List Byte :=
  leBytes 4 s.lanes.rate ++ four.flatMap (fun l => leBytes 4 s.lanes.latency[l]) ++ eight.flatMap s.channelBytes

/-! ## RELAY_STATUS (R159) -/

/-- The code of a link state (R196). -/
def LinkState.code : LinkState → Nat
  | .down => 0 | .qualifying _ => 1 | .up => 2

/-- The kind of a transmission, as its frame's kind code (DEDUCED, log 19). -/
def Transmission.code (t : Transmission) : Nat :=
  match t.entry with
  | none => 3
  | some e =>
    match e.kind with
    | .audio => 1 | .parity => 2 | .directive => 4

/-- A source table entry's bytes: node 0 means absent (R196). -/
def entryBytes (e : Option (NodeId × Nat)) : List Byte :=
  match e with
  | some (node, prio) => leBytes 2 node.toNat ++ leBytes 1 prio
  | none => leBytes 3 0

/-- A queue's part of the record: 7 bytes. -/
def RelayQueue.bytes (rq : RelayQueue) : List Byte :=
  flagByte rq.weighted ++ leBytes 1 rq.weight ++ leBytes 4 rq.deficit ++ leBytes 1 rq.entries.length

/-- The RELAY_STATUS record: 113 bytes. -/
def State.relayRecord (s : State) : List Byte :=
  let r := s.relay
  flagBits [r.tx.isSome, r.timer.isSome, r.beatPending] ++ leBytes 1 r.link.code
    ++ r.classMap.toList.flatMap (leBytes 1) ++ r.sources.toList.flatMap entryBytes
    ++ leBytes 1 r.wStream ++ leBytes 1 r.wClass ++ leBytes 1 r.wSource
    ++ leBytes 1 r.count ++ r.map.toList.flatMap (fun q => leBytes 1 q.val) ++ four.flatMap (fun q => (r.queue q).bytes)
    ++ leBytes 1 r.pointer.val
    ++ optBytes 1 (r.tx.map (·.code)) ++ optBytes 2 (r.tx.map (·.length))
    ++ optBytes 4 (r.tx.map (fun t => ticksSince s.lc t.start))
    ++ leBytes 1 (r.margin / Config.ticksPerMs) ++ leBytes 2 (r.interval / Config.ticksPerMs)
    ++ optBytes 4 (r.timer.map (fun due => ticksSince due s.lc))

/-! ## COUNTERS (R168) -/

/-- A scope of the COUNTERS record: the part, or one stream (R168). -/
inductive Scope where
  | part
  | stream (i : Fin 8)
deriving DecidableEq, Repr

/-- The counters of a scope, in the order of the record: the 46 part counters and the eight clip counters, or a stream's
39 (R196). -/
def State.scopeValues (s : State) : Scope → List Nat
  | .part => s.counters.toList ++ s.channels.toList.map (·.clip)
  | .stream i => (s.stream i).counters.toList

/-- The scope byte (R195). -/
def Scope.code : Scope → Nat
  | .part => 255
  | .stream i => i.val

/-- The COUNTERS record: 157 bytes for a stream, 217 for the part. -/
def State.countersRecord (s : State) (sc : Scope) : List Byte :=
  leBytes 1 sc.code ++ (s.scopeValues sc).flatMap (leBytes 4)

/-- Counters each reduced by what a record reported of it, or 0 when it is lower (R168). -/
def reduced {n : Nat} (v : Vector Nat n) (reported : List Nat) : Vector Nat n :=
  (List.range n).foldl (fun w j => if h : j < n then w.set j (w[j] - reported.getD j 0) else w) v

/-- The counters of a scope reduced by the values a record reported (R168). -/
def State.clearCounters (sc : Scope) (reported : List Nat) (s : State) : State :=
  match sc with
  | .part =>
    { s with
      counters := reduced s.counters reported
      channels := tab8 (fun c => { s.channel c with clip := (s.channel c).clip - reported.getD (46 + c.val) 0 }) }
  | .stream i => s.setStream i { s.stream i with counters := reduced (s.stream i).counters reported }

/-! ## LINES (R193) -/

/-- The code of a detection mode (R195). -/
def Detect.code : Detect → Nat
  | .event => 0 | .pattern => 1

/-- The LINES record: 16 bytes; each line's last sample and accepted level stand together (DEDUCED, log 18), the wake, match and
LINE bytes are 1 or 0 (DESIGN CHOICE, log 41), and the four unused high bits of the mask, compare and capture bytes are kept
by no register and sent as 0 (DESIGN CHOICE, log 20). -/
def State.linesRecord (s : State) : List Byte :=
  let l := s.lines
  four.flatMap (fun n => levelByte l.last[n] ++ levelByte l.accepted[n])
    ++ leBytes 1 l.mask.toNat ++ leBytes 1 l.detect.code ++ leBytes 1 l.compare.toNat ++ leBytes 1 l.forceMask.toNat
    ++ flagByte l.wake ++ leBytes 1 ((l.capture.map BitVec.toNat).getD 255) ++ flagByte l.matchHolds
    ++ flagByte (s.partSet .line)

/-! ## Requests (R167) -/

/-- A checked request of a QUERY (R167). -/
inductive Request where
  | identity | time
  | stream (i : Fin 8)
  | store | channel | relay
  | counters (sc : Scope) (clear : Bool)
  | lines
deriving DecidableEq, Repr

/-- The checks of one request (R167): its type, then its argument. -/
def checkRequest (q : QueryRequest) : Except ResultCode Request :=
  match q.type.toNat with
  | 1 => .ok .identity
  | 2 => .ok .time
  | 3 => match index8 q.arg with
    | some i => .ok (.stream i)
    | none => .error .badIndex
  | 4 => .ok .store
  | 5 => .ok .channel
  | 6 => .ok .relay
  | 7 =>
    if q.arg = 0xFF then .ok (.counters .part (maskBit q.flags 0))
    else match index8 q.arg with
      | some i => .ok (.counters (.stream i) (maskBit q.flags 0))
      | none => .error .badIndex
  | 8 => .ok .lines
  | _ => .error .badValue

/-- Every request checked before any record is formed; the first in list order that fails refuses the item (R167; DEDUCED,
log 35). -/
def checkRequests : List QueryRequest → Except ResultCode (List Request)
  | [] => .ok []
  | q :: qs =>
    match checkRequest q with
    | .error r => .error r
    | .ok x =>
      match checkRequests qs with
      | .error r => .error r
      | .ok xs => .ok (x :: xs)

/-- The record type of a request (R195). -/
def Request.code : Request → Nat
  | .identity => 1 | .time => 2 | .stream _ => 3 | .store => 4 | .channel => 5 | .relay => 6 | .counters _ _ => 7
  | .lines => 8

/-- The body of a request's record. -/
def State.recordBody (s : State) : Request → List Byte
  | .identity => s.identityRecord
  | .time => s.timeRecord
  | .stream i => s.streamRecord i
  | .store => s.storeRecord
  | .channel => s.channelRecord
  | .relay => s.relayRecord
  | .counters sc _ => s.countersRecord sc
  | .lines => s.linesRecord

/-- Bytes of a record's body, which R196 fixes for each type; a reply finds room by them before it forms the record. -/
def Request.size : Request → Nat
  | .identity => 28 | .time => 64 | .stream _ => 60 | .store => 43 | .channel => 412 | .relay => 113
  | .counters (.stream _) _ => 157
  | .counters .part _ => 217
  | .lines => 16

/-- A record as it stands in a REPORT: type, length, body (R196). -/
def State.record (s : State) (q : Request) : List Byte :=
  leBytes 1 q.code ++ leBytes 2 (s.recordBody q).length ++ s.recordBody q

/-- What forming a record changes: STORE_STATUS restarts the least free count, the others nothing (R89, R167). -/
def State.afterRecord (q : Request) (s : State) : State :=
  match q with
  | .store => s.restartLeast
  | .identity | .time | .stream _ | .channel | .relay | .counters _ _ | .lines => s

end Sys2Proof.Machine
end

