-- ==== Sys2Proof/Machine/Directives.lean ====
section
/-! DEFINITION. The Directive Unit (09_directives_reports_and_attention.md): its own items SET_REPORTING, CLEAR_ATTENTION, QUERY
and RESET, the processing of a directive's items in order, the reply, and the end of the directive's event. -/

namespace Sys2Proof.Machine

/-! ## SET_REPORTING and CLEAR_ATTENTION (R166, R175, R176) -/

/-- The Directive Unit's state replaced. -/
def State.setDu (s : State) (d : DirectiveUnit) : State := { s with du := d }

/-- SET_REPORTING (R166). -/
def applySetReporting (dest : NodeId) (mask : BitVec 16) (s : State) : Except ResultCode State :=
  if dest = 0 then .error .badValue
  else .ok (s.setDu { s.du with noticeDest := dest, noticeMask := mask.setWidth 14 })

/-- A part code's bit in a set. -/
def PartCode.mask (c : PartCode) : BitVec 9 := 1#9 <<< c.bit

/-- The condition-held codes whose condition holds now (R174, R175). -/
def State.heldCodes (s : State) : BitVec 9 :=
  (if s.tlu.timeState = .unlocked then PartCode.timeLost.mask else 0)
    ||| (if s.pool.low then PartCode.storeLow.mask else 0)
    ||| (if s.lines.detect = .pattern ∧ s.lines.matchHolds then PartCode.line.mask else 0)

/-- The part codes named are cleared, held ones apart; when LINE goes from set to clear so do all force-mute flags
(R131, R175, R176). -/
def State.clearPart (named : BitVec 9) (s : State) : State :=
  let s1 := s.setDu { s.du with attention := s.du.attention &&& ~~~(named &&& ~~~s.heldCodes) }
  if s.partSet .line && !s1.partSet .line then
    { s1 with channels := map8 (fun ch : Channel => { ch with forceMute := false }) s1.channels }
  else s1

/-- The codes named are cleared in one stream's set. -/
def Stream.clearCodes (named : BitVec 5) (st : Stream) : Stream := { st with attention := st.attention &&& ~~~named }

/-- The codes named are cleared in the streams an index byte names: one, or all eight for 0xFF (R176). -/
def State.clearStreams (index : Byte) (named : BitVec 5) (s : State) : State :=
  if index = 0xFF then { s with streams := map8 (Stream.clearCodes named) s.streams }
  else
    match index8 index with
    | some i => s.setStream i ((s.stream i).clearCodes named)
    | none => s

/-- CLEAR_ATTENTION (R176). -/
def applyClearAttention (partMask : BitVec 16) (index : Byte) (streamMask : Byte) (s : State) :
    Except ResultCode State :=
  if index != 0xFF && (index8 index).isNone then .error .badIndex
  else .ok ((s.clearPart (partMask.setWidth 9)).clearStreams index (streamMask.setWidth 5))

/-! ## A directive in progress (R161, R162) -/

/-- What the Directive Unit keeps while it processes one directive. -/
structure Work where
  /-- Items applied so far. -/
  applied : Nat
  /-- Items read so far: the index of the next one. -/
  index : Nat
  /-- Whether an item read concerned this part (R162). -/
  concerned : Bool
  /-- Records placed in the reply, in order. -/
  records : List Byte
  truncated : Bool
  /-- Counters to clear when the reply is placed: a scope and the values its record gave (R168). -/
  clears : List (Scope × List Nat)
  outcome : ResultCode
  failing : Option Nat
  /-- A RESET item ended the list. -/
  reset : Bool

/-- A directive of which no item has been read. -/
def Work.start : Work := ⟨0, 0, false, [], false, [], .ok, none, false⟩

/-- An item refused: the directive's outcome and failing index (R162). -/
def Work.fail (w : Work) (r : ResultCode) : Work :=
  { w with concerned := true, outcome := r, failing := some w.index }

/-- An item applied with OK. -/
def Work.apply (w : Work) : Work := { w with concerned := true, applied := w.applied + 1, index := w.index + 1 }

/-- An ASSIGN_NODE skipped. -/
def Work.skip (w : Work) : Work := { w with index := w.index + 1 }

/-! ## QUERY (R167, R171) -/

/-- The counters a placed record will clear (R168). -/
def State.clearsOf (s : State) : Request → List (Scope × List Nat)
  | .counters sc true => [(sc, s.scopeValues sc)]
  | .counters _ false | .identity | .time | .stream _ | .store | .channel | .relay | .lines => []

/-- Whether a record finds room: the four fixed bytes, the records placed and this one within 1440 bytes (R171). -/
def Work.fits (w : Work) (q : Request) : Bool :=
  !w.truncated && decide (4 + w.records.length + (3 + q.size) ≤ Config.replyBytes)

/-- One record formed and placed, or left out (R167, R171). -/
def formRecord (x : Work × State) (q : Request) : Work × State :=
  if x.1.fits q then
    ({ x.1 with records := x.1.records ++ x.2.record q, clears := x.1.clears ++ x.2.clearsOf q }, x.2.afterRecord q)
  else ({ x.1 with truncated := true }, x.2)

/-- A QUERY that passes: its records are formed in order when a reply is wanted, and none otherwise (R167). -/
def formRecords (wanted : Bool) (qs : List Request) (x : Work × State) : Work × State :=
  if wanted then qs.foldl formRecord x else x

/-! ## One item -/

/-- Each item carried out by the block that owns the state it changes (R165). ASSIGN_NODE's serial, QUERY's records and
RESET are the directive's own affair (`takeItem`). -/
def applyItem (it : Item) (s : State) : Except ResultCode State :=
  match it with
  | .assignNode _ node groups => applyAssignNode node groups s
  | .setReporting dest mask => applySetReporting dest mask s
  | .setTimeSource source allowance gap holdover => applySetTimeSource source allowance gap holdover s
  | .setRegen ms => applySetRegen ms s
  | .loadStream p => applyLoadStream p s
  | .openStream index => applyOpenStream index s
  | .closeStream index => applyCloseStream index s
  | .unloadStream index => applyUnloadStream index s
  | .mapChannel chan primary overlay gP gO duck => applyMapChannel chan primary overlay gP gO duck s
  | .setGain mask gP gO duck => applySetGain mask gP gO duck s
  | .setMute mask setting => applySetMute mask setting s
  | .setLanes rate l0 l1 l2 l3 => applySetLanes rate l0 l1 l2 l3 s
  | .setMode mode => applySetMode mode s
  | .setClassMap prios => applySetClassMap prios s
  | .setSourceEntry index node prio => applySetSourceEntry index node prio s
  | .setPriorityWeights stream cls source => applySetPriorityWeights stream cls source s
  | .setQueues p => applySetQueues p s
  | .setRelayMargin ms => applySetRelayMargin ms s
  | .setStore mark => applySetStore mark s
  | .setLines mask mode compare forceMask wake => applySetLines mask mode compare forceMask wake s
  | .clearAttention partMask index streamMask => applyClearAttention partMask index streamMask s
  | .query _ => .ok s
  | .reset => .ok s

/-- The items an unassigned node takes (R163). -/
def takenUnassigned : Item → Bool
  | .assignNode _ _ _ | .query _ => true
  | .setReporting _ _ | .setTimeSource _ _ _ _ | .setRegen _ | .loadStream _ | .openStream _ | .closeStream _
  | .unloadStream _ | .mapChannel _ _ _ _ _ _ | .setGain _ _ _ _ | .setMute _ _ | .setLanes _ _ _ _ _ | .setMode _
  | .setClassMap _ | .setSourceEntry _ _ _ | .setPriorityWeights _ _ _ | .setQueues _ | .setRelayMargin _ | .setStore _
  | .setLines _ _ _ _ _ | .clearAttention _ _ _ | .reset => false

/-- What becomes of one item. -/
inductive ItemEnd where
  | refused (r : ResultCode) (s : State)
  | skipped (s : State)
  | applied (w : Work) (s : State)
  | reset (s : State)

/-- One item that was read, under tests 5 and 6 of R161 (R162, R163, R167, R169, R184). -/
def takeItem (wanted : Bool) (it : Item) (w : Work) (s : State) : ItemEnd :=
  if s.ident.node = 0 && !takenUnassigned it then .refused .unassigned (s.bump .itemsUnassigned)
  else
    match it with
    | .assignNode serial _ _ =>
      if serial != s.ident.serial then .skipped (s.bump .itemsSkipped)
      else match applyItem it s with
        | .error r => .refused r s
        | .ok s1 => .applied w s1
    | .query reqs =>
      match checkRequests reqs with
      | .error r => .refused r s
      | .ok qs => let x := formRecords wanted qs (w, s); .applied x.1 x.2
    | .reset => .reset s
    | _ =>
      match applyItem it s with
      | .error r => .refused r s
      | .ok s1 => .applied w s1

/-- The items of a directive in their order, up to the end of its processing (R162); ITEMS_APPLIED counts as each takes
effect (DEDUCED, log 34). -/
def runItems (wanted : Bool) : List ReadItem → Work → State → Work × State
  | [], w, s => (w, s)
  | .bad r :: _, w, s => (w.fail r, s)
  | .item it :: rest, w, s =>
    match takeItem wanted it w s with
    | .refused r s1 => (w.fail r, s1)
    | .skipped s1 => runItems wanted rest w.skip s1
    | .applied w1 s1 => runItems wanted rest w1.apply (s1.bump .itemsApplied)
    | .reset s1 => ({ w.apply with reset := true }, s1.bump .itemsApplied)

/-! ## The reply (R170, R172) and the end of the event -/

/-- The payload of a reply (R170, R196). Bits 1 to 7 of its flags byte, of which R196 names bit 0 alone, are sent as 0 (DESIGN
CHOICE, log 20). -/
def Work.payload (w : Work) : List Byte :=
  leBytes 1 w.outcome.code ++ leBytes 1 (w.failing.getD 255) ++ leBytes 1 w.applied ++ flagByte w.truncated ++ w.records

/-- The REPORT frame that answers a directive (R170). -/
def replyFrame (h : DirHeader) (w : Work) (s : State) : List Byte :=
  buildFrame 5 (h.cls.setWidth 8) h.source s.ident.node h.tag 0 w.payload

/-- Whether a reply is due (R172). -/
def replyDue (h : DirHeader) (w : Work) : Bool := h.replyWanted && w.concerned

/-- The counters whose records were placed are reduced (R168). -/
def State.clearAll (s : State) (cs : List (Scope × List Nat)) : State :=
  cs.foldl (fun s c => s.clearCounters c.1 c.2) s

/-- A due reply is offered to the report queue; when it is placed it counts, and the clears it carries take place
(R168, R172; their order is DEDUCED, log 36). -/
def placeReply (h : DirHeader) (w : Work) (s : State) : State :=
  if replyDue h w then
    let r := s.offerReport (replyFrame h w s)
    if r.1 then (r.2.bump .repliesQueued).clearAll w.clears else r.2
  else s

/-- The identity a directed reset leaves (R169, R183, R187). -/
def Identity.afterDirected (d : Identity) : Identity :=
  { d with
    resetCause := .directed
    directedResets := if d.directedResets < 65535 then d.directedResets + 1 else d.directedResets
    presenceTimer := none
    mode := .standby }

/-- The directed reset (R169): every block at its values after a DIRECTED reset, and the reply formed before it placed in
the emptied report queue (DEDUCED, log 15). -/
def directedReset (h : DirHeader) (w : Work) (s : State) : State :=
  let s1 := State.afterReset s.ident.afterDirected s.relay.satDet s.pending
  if replyDue h w then (s1.offerReport (replyFrame h w s)).2.bump .repliesQueued else s1

/-- The counter of how a directive's processing ended (R179). -/
def Work.counter (w : Work) : PartCounter :=
  match w.failing with
  | none => .directivesCompleted
  | some _ => .directivesFailed

/-- The end of a directive's event (R162, R169, R172, R177, R179): counted, its reply placed, then any notice. -/
def finishDirective (h : DirHeader) (w : Work) (s : State) : State :=
  if w.reset then directedReset h w s else (placeReply h w (s.bump w.counter)).endEvent

/-- The Directive Unit takes a directive with these items, as one event (R161). -/
def State.runDirective (h : DirHeader) (items : List ReadItem) (s : State) : State :=
  let x := runItems h.replyWanted items Work.start s
  finishDirective h x.1 x.2

/-! ## Directives and item rows -/

/-- Test 4 of R161 on an item given by its fields: only the counts of groups and of requests can be out of place. -/
def itemLengthOk : Item → Bool
  | .assignNode _ _ groups => decide (groups.length ≤ 4)
  | .query reqs => decide (1 ≤ reqs.length) && decide (reqs.length ≤ 85)
  | .setReporting _ _ | .setTimeSource _ _ _ _ | .setRegen _ | .loadStream _ | .openStream _ | .closeStream _
  | .unloadStream _ | .mapChannel _ _ _ _ _ _ | .setGain _ _ _ _ | .setMute _ _ | .setLanes _ _ _ _ _ | .setMode _
  | .setClassMap _ | .setSourceEntry _ _ _ | .setPriorityWeights _ _ _ | .setQueues _ | .setRelayMargin _ | .setStore _
  | .setLines _ _ _ _ _ | .clearAttention _ _ _ | .reset => true

/-- An item given by its fields, as the Directive Unit reads it. -/
def readTyped (it : Item) : ReadItem := if itemLengthOk it then .item it else .bad .badLength

/-- A directive of one item, counted in DIRECTIVES_TAKEN as one that Dispatch hands on is (R42, R179; DESIGN CHOICE,
log 3). -/
def State.itemEvent (h : DirHeader) (it : Item) (s : State) : State :=
  (s.bump .directivesTaken).runDirective h [readTyped it]

/-- The header fields of a DIRECTIVE frame that its reply uses (R170, R172). -/
def headerOf (bytes : List Byte) : DirHeader :=
  ⟨frameClass bytes, frameReplyWanted bytes, frameSource bytes, frameSeq bytes⟩

/-- The Directive Unit takes the DIRECTIVE handed to it (R161). -/
def State.takeDirective (f : InFrame) (s : State) : State :=
  s.runDirective (headerOf f.bytes) (payloadItems (framePayload f.bytes))

/-- The Relay Unit takes a copy of the DIRECTIVE handed to it, as it was received (R36, R86, R148). -/
def State.copyDirective (f : InFrame) (s : State) : State :=
  (s.offerCopy .directive none f.bytes (.unowned (directiveCells f.bytes))).endEvent

end Sys2Proof.Machine
end

