-- ==== Sys2Proof/Machine/SatLine.lean ====
section
/-! DEFINITION. The satellite line (R198): a frame as bit cells, the reading of cells up to the end of a reception, and the judging
of a received frame (R156). -/

namespace Sys2Proof.Machine

/-! ## Sending -/

/-- The bits of a byte, least significant first. -/
def byteBits (b : Byte) : List Bool :=
  [b.getLsbD 0, b.getLsbD 1, b.getLsbD 2, b.getLsbD 3, b.getLsbD 4, b.getLsbD 5, b.getLsbD 6, b.getLsbD 7]

/-- The bits of a frame, in the order they are sent (R198). -/
def frameBits (bytes : List Byte) : List Bool := bytes.flatMap byteBits

/-- A bit cell that is not a frame's first: a transition at its start, and one at mid-cell for a 1 (R198). -/
def bitCell (b : Bool) : LineCell := ⟨true, b⟩

/-- A frame's first cell: it has no starting transition (R198). -/
def firstCell (b : Bool) : LineCell := ⟨false, b⟩

/-- The cells of a frame (R198). -/
def lineCells (bytes : List Byte) : List LineCell :=
  match frameBits bytes with
  | [] => []
  | b :: bs => firstCell b :: bs.map bitCell

/-- The idle cell: a cell of a 0 (R198). -/
def idleCell : LineCell := bitCell false

/-! ## Receiving -/

/-- A byte from eight bits, least significant first. -/
def byteOfBits (b0 b1 b2 b3 b4 b5 b6 b7 : Bool) : Byte :=
  BitVec.ofNat 8 (b0.toNat + 2 * b1.toNat + 4 * b2.toNat + 8 * b3.toNat + 16 * b4.toNat + 32 * b5.toNat + 64 * b6.toNat
    + 128 * b7.toNat)

/-- The complete bytes of a run of bits. -/
def bitBytes : List Bool → List Byte
  | b0 :: b1 :: b2 :: b3 :: b4 :: b5 :: b6 :: b7 :: rest => byteOfBits b0 b1 b2 b3 b4 b5 b6 b7 :: bitBytes rest
  | _ => []

/-- The mid-cell bits of the cells up to the first violation, which ends the reception (R198). -/
def bitsToViolation : List LineCell → List Bool
  | [] => []
  | c :: cs => if c.start then c.mid :: bitsToViolation cs else []

/-- The bits of one reception, from the violation that begins it, the line having made no transition for `still` ticks at that
cell's start (R198). It ends at the next violation, and once the line has been held still for more than 4 ticks: only its
first cell may lack the starting transition, so only there may that be, before the mid-cell one tick later or before the next
start two ticks later. A violation that ends it begins a reception of its own. -/
def receptionBits (still : Nat) : List LineCell → List Bool
  | [] => []
  | c :: cs =>
    if c.start || decide (Config.stillTicks < still + 1) then []
    else if !c.mid && decide (Config.stillTicks < still + Config.cellTicks) then [c.mid]
    else c.mid :: bitsToViolation cs

/-- The bytes at which a reception ends: the payload length field plus 20, or 16 when that exceeds 1460 (R198). -/
def receptionLength (bytes : List Byte) : Nat :=
  let l := framePayloadLength bytes + 20
  if Config.maxFrame < l then 16 else l

/-- The frame a reception brings (R198). One that ends before byte 15 ends short of any length. -/
def receivedBytes (rx : Reception) : List Byte :=
  let bs := bitBytes (receptionBits rx.still rx.cells)
  if bs.length < 16 then bs else bs.take (receptionLength bs)

/-- Whether a received frame passes the checks of R29 and R30, as R156 has them. -/
def receivedPasses (bytes : List Byte) : Bool := (frameFault (Filling.of bytes) false).isNone

/-- The ticks a reception lasts, from its violation to its end: two for each cell up to the frame's length, or up to where
the line ended it (R198). -/
def receptionTicks (rx : Reception) : Nat :=
  let bits := receptionBits rx.still rx.cells
  let bs := bitBytes bits
  Config.cellTicks * (if 16 ≤ bs.length ∧ receptionLength bs ≤ bs.length then 8 * receptionLength bs else bits.length)

/-- Whether a reception that ends now is received: the link is UP, and has been since the reception began, for in DOWN and
QUALIFYING nothing is received, and what is under way when the link leaves UP is abandoned (R156). That it began its ticks
before the row is taken is the model's (DESIGN CHOICE, log 24). -/
def State.receives (rx : Reception) (s : State) : Bool :=
  s.relay.link == .up && decide (receptionTicks rx ≤ s.relay.upFor)

/-- A received frame is checked and judged by its kind (R156). -/
def State.judgeReceived (bytes : List Byte) (s : State) : State :=
  if !receivedPasses bytes then s.bump .satRxBad
  else
    match frameKind bytes with
    | some .report | some .notice =>
      let r := s.offerReport bytes
      if r.1 then r.2.bump .satRxForwarded else r.2
    | some .audio | some .parity | some .beat | some .directive | none => s.bump .satRxWrongKind

/-- A reception ends (R156); while it is in progress it is no state of the model (DESIGN CHOICE, log 24). -/
def State.receiveFrame (rx : Reception) (s : State) : State :=
  if s.receives rx then s.judgeReceived (receivedBytes rx) else s

end Sys2Proof.Machine
end

