-- ==== Sys2Proof/Machine/Clock.lean ====
section
/-! DEFINITION. The reference clock (R1): what one cycle of REFCLK brings when no command waits
(DESIGN CHOICE, log 2), and the output pins as functions of the state (00_scope.md, section 6; DESIGN CHOICE, log 25). -/

namespace Sys2Proof.Machine

/-- The first reference cycle after a reset: with SAT_DET asserted and the link DOWN, the qualification begins as on a rise
(R149). -/
def State.firstReference (s : State) : State :=
  if s.firstCycle then
    let s1 := { s with firstCycle := false }
    if s1.relay.satDet then s1.satRise else s1
  else s

/-- LC advances by one, and with it the cycles that the link has been UP (R1, R156). -/
def State.advance (s : State) : State :=
  { s with lc := s.lc + 1, relay := { s.relay with upFor := s.relay.upFor + 1 } }

/-- One reference cycle (R1, DESIGN CHOICE, log 2): LC advances by one, and an instant that is a frame-clock edge
brings its lane frame and, in ACTIVE, its output period (R136, R137). -/
def State.tick (s : State) : State :=
  let s1 := s.firstReference.advance
  s1.edgeAt s1.lc

/-! ## Pins -/

/-- PP_RDY: the report queue holds a frame (R38). -/
def State.ppRdy (s : State) : Bool := !s.du.reportQueue.isEmpty

/-- The bytes a read select shifts out on PP_DOUT before the zeros that follow them (R39). -/
def State.readBytes (s : State) : List Byte :=
  match s.port.select with
  | .read (some f) => leBytes 2 f.length ++ f
  | .read none | .idle | .opening _ | .write _ | .refused | .void => []

/-- Byte `n` that PP_DOUT carries in a read select after its opening byte: zero beyond the frame, and zero in a read that a
reset cut (R39, R41). That it is zero in a write select too, before the opening byte is complete and with no select is the
model's (DESIGN CHOICE, log 43). -/
def State.ppDout (s : State) (n : Nat) : Byte := s.readBytes.getD n 0

/-- Ticks of one LN_BCLK period: 64 of them make a lane frame (R136). -/
def Lanes.bitTicks (l : Lanes) : Nat := periodOf l.rate / 64

/-- LN_BCLK, true for high. Bits change on its falling edge and a half begins with a bit, so each period begins low
(R136; DEDUCED, log 37). -/
def State.lnBclk (s : State) : Bool := decide (s.lanes.bitTicks / 2 ≤ s.lc.toNat % s.lanes.bitTicks)

/-- LN_FCLK, true for high: low through the left half of a lane frame, high through the right (R136). -/
def State.lnFclk (s : State) : Bool := decide (periodOf s.lanes.rate / 2 ≤ s.lc.toNat % periodOf s.lanes.rate)

/-- Bit `j` of a half of a lane frame: the 24 bits of a sample, most significant first, then 8 zeros (R136). -/
def halfBit (sample : Int) (j : Nat) : Bool := decide (j < 24) && (BitVec.ofInt 24 sample).getLsbD (23 - j)

/-- LN_D0 .. LN_D3: lane `l` carries channel 2l in the left half and 2l + 1 in the right (R136). -/
def State.lnData (s : State) (l : Fin 4) : Bool :=
  let half := periodOf s.lanes.rate / 2
  let j := s.lc.toNat % half / s.lanes.bitTicks
  halfBit (s.lanes.current.samples.toList.getD (2 * l.val + s.lnFclk.toNat) 0) j

/-- Ticks since the satellite line's cells began to be counted: from the start of the transmission in progress (R154), or of
the last one, since idle cells follow a frame back to back (R198; before the first, DESIGN CHOICE, log 25). -/
def State.satTicks (s : State) : Nat :=
  match s.relay.tx with
  | some t => ticksSince s.lc t.start
  | none => ticksSince s.lc s.relay.cellOrigin

/-- The cell the transmit pair carries: 2 ticks for each cell of the frame, and idle cells when none is being sent or it has
ended (R154, R198). -/
def State.satCell (s : State) : LineCell :=
  match s.relay.tx with
  | some t => (lineCells t.frame).getD (s.satTicks / Config.cellTicks) idleCell
  | none => idleCell

/-- Whether SAT_TXP and SAT_TXN make a transition at this tick: the cell's start, then its mid-cell (R198). -/
def State.satTransition (s : State) : Bool :=
  if s.satTicks % Config.cellTicks = 0 then s.satCell.start else s.satCell.mid

end Sys2Proof.Machine
end

