-- ==== Sys2Proof/Machine/PortCommands.lean ====
section
/-! DEFINITION. The reset and the commands of the Packet Port and Dispatch. -/

namespace Sys2Proof.Machine

/-- POWER_ON_RESET (R183): every block at its values after a POWER-ON reset. The part serial is fixed, SAT_DET is an input
(DESIGN CHOICE, log 6, 8). -/
def execPowerOnReset (s : State) :
    Host.Outcome State Fault Refusal :=
  .next (State.afterReset (.afterPowerOn s.ident.serial) s.relay.satDet s.pending)

/-- SELECT_ASSERTION (R25). -/
def execSelectAssertion (s : State) : Host.Outcome State Fault Refusal := .next s.assertSelect

/-- WRITE_SELECT: the opening byte decodes as WRITE (R25, R27). -/
def execWriteSelect (s : State) : Host.Outcome State Fault Refusal := .next (s.takeOpening Config.writeOpening)

/-- READ_SELECT: the opening byte decodes as READ (R25, R39). -/
def execReadSelect (s : State) : Host.Outcome State Fault Refusal := .next (s.takeOpening Config.readOpening)

/-- BAD_OPENING: the opening byte is `b` (R25). A byte that decodes as WRITE or READ is no bad opening (`wellFormed`), and the
select is the one it decodes as. -/
def execBadOpening (b : Byte) (s : State) : Host.Outcome State Fault Refusal := .next (s.takeOpening b)

/-- EARLY_DEASSERTION (R25). -/
def execEarlyDeassertion (s : State) : Host.Outcome State Fault Refusal := .next s.endEarly

/-- WRITE_SELECT_END (R28 to R30, R41); the bytes shifted in arrive with it (DESIGN CHOICE, log 29). -/
def execWriteSelectEnd (bytes : List Byte) (ragged : Bool) (s : State) :
    Host.Outcome State Fault Refusal :=
  .next (s.endWrite bytes ragged)

/-- READ_SELECT_END (R39 to R41). -/
def execReadSelectEnd (shifted : Nat) (s : State) : Host.Outcome State Fault Refusal := .next (s.endRead shifted)

/-- DISPATCH (R31 to R37). -/
def execDispatch (s : State) : Host.Outcome State Fault Refusal := .next s.dispatchHead

end Sys2Proof.Machine
end

