-- ==== Sys2Proof/Machine/TimeCommands.lean ====
section
/-! DEFINITION. The commands of the Time Lock Unit. -/

namespace Sys2Proof.Machine

/-- TAKING_A_BEAT (R6 to R15). -/
def execTakingABeat (s : State) : Host.Outcome State Fault Refusal := .next (s.take .timeLock State.takeBeat).endEvent

/-- GAP_EXPIRY (R17), when the gap interval has expired (DESIGN CHOICE, log 26). -/
def execGapExpiry (s : State) :
    Host.Outcome State Fault Refusal :=
  .next (if s.gapDue then s.gapExpires else s).endEvent

/-- HOLDOVER_EXPIRY (R18), when HOLDOVER has reached its limit (DESIGN CHOICE, log 26). -/
def execHoldoverExpiry (s : State) :
    Host.Outcome State Fault Refusal :=
  .next (if s.holdoverDue then s.loseTime else s).endEvent

end Sys2Proof.Machine
end

