-- ==== Sys2Proof/Machine/StoreCommands.lean ====
section
/-! DEFINITION. The commands of admission and of the Parity Unit. -/

namespace Sys2Proof.Machine

/-- AUDIO_ADMISSION (R75). -/
def execAudioAdmission (s : State) :
    Host.Outcome State Fault Refusal :=
  .next (s.take .admission State.admitAudio).endEvent

/-- PARITY_ADMISSION (R91). -/
def execParityAdmission (s : State) :
    Host.Outcome State Fault Refusal :=
  .next (s.take .parity State.admitParity).endEvent

/-- RECOVERY_START (R99, R100). -/
def execRecoveryStart (s : State) : Host.Outcome State Fault Refusal := .next s.startRecovery.endEvent

/-- RECOVERY_COMPLETION (R101 to R103). -/
def execRecoveryCompletion (s : State) : Host.Outcome State Fault Refusal := .next s.endRecovery

end Sys2Proof.Machine
end

