-- ==== Sys2Proof/Machine/OutputCommands.lean ====
section
/-! DEFINITION. The commands of the Reader Unit, the mixer and the lanes. -/

namespace Sys2Proof.Machine

/-- READER_PERIOD (R110 to R123). -/
def execReaderPeriod (r : ReaderId) (s : State) : Host.Outcome State Fault Refusal := .next (s.readerTakes r).endEvent

/-- CHANNEL_PERIOD (R134, R135). -/
def execChannelPeriod (c : Fin 8) (s : State) : Host.Outcome State Fault Refusal := .next (s.channelTakes c).endEvent

/-- LANE_RATE_CHANGE (R139). -/
def execLaneRateChange (s : State) : Host.Outcome State Fault Refusal := .next s.changeRate

end Sys2Proof.Machine
end

