-- ==== Sys2Proof/Machine/ItemCommands.lean ====
section
/-! DEFINITION. The twenty-three directive items, each as a directive of that one item (DESIGN CHOICE, log 3), and the taking of a
whole directive. -/

namespace Sys2Proof.Machine

/-- ASSIGN_NODE (R184). -/
def execAssignNode (h : DirHeader) (serial : BitVec 48) (node : NodeId) (groups : List NodeId) (s : State) :
    Host.Outcome State Fault Refusal :=
  .next (s.itemEvent h (.assignNode serial node groups))

/-- SET_REPORTING (R166). -/
def execSetReporting (h : DirHeader) (dest : NodeId) (mask : BitVec 16) (s : State) :
    Host.Outcome State Fault Refusal :=
  .next (s.itemEvent h (.setReporting dest mask))

/-- SET_TIME_SOURCE (R3 to R5). -/
def execSetTimeSource (h : DirHeader) (source : NodeId) (allowance : BitVec 32) (gap : Byte) (holdover : BitVec 16) (s : State) :
    Host.Outcome State Fault Refusal :=
  .next (s.itemEvent h (.setTimeSource source allowance gap holdover))

/-- SET_REGEN (R155). -/
def execSetRegen (h : DirHeader) (ms : BitVec 16) (s : State) :
    Host.Outcome State Fault Refusal :=
  .next (s.itemEvent h (.setRegen ms))

/-- LOAD_STREAM (R44, R45). -/
def execLoadStream (h : DirHeader) (p : LoadParams) (s : State) :
    Host.Outcome State Fault Refusal :=
  .next (s.itemEvent h (.loadStream p))

/-- OPEN_STREAM (R46). -/
def execOpenStream (h : DirHeader) (index : Byte) (s : State) :
    Host.Outcome State Fault Refusal :=
  .next (s.itemEvent h (.openStream index))

/-- CLOSE_STREAM (R47). -/
def execCloseStream (h : DirHeader) (index : Byte) (s : State) :
    Host.Outcome State Fault Refusal :=
  .next (s.itemEvent h (.closeStream index))

/-- UNLOAD_STREAM (R48). -/
def execUnloadStream (h : DirHeader) (index : Byte) (s : State) :
    Host.Outcome State Fault Refusal :=
  .next (s.itemEvent h (.unloadStream index))

/-- MAP_CHANNEL (R107, R108, R128). -/
def execMapChannel (h : DirHeader) (chan : Byte) (primary overlay : SourceBytes) (gP gO duck : BitVec 16) (s : State) :
    Host.Outcome State Fault Refusal :=
  .next (s.itemEvent h (.mapChannel chan primary overlay gP gO duck))

/-- SET_GAIN (R129). -/
def execSetGain (h : DirHeader) (mask : BitVec 8) (gP gO duck : BitVec 16) (s : State) :
    Host.Outcome State Fault Refusal :=
  .next (s.itemEvent h (.setGain mask gP gO duck))

/-- SET_MUTE (R130). -/
def execSetMute (h : DirHeader) (mask : BitVec 8) (setting : Byte) (s : State) :
    Host.Outcome State Fault Refusal :=
  .next (s.itemEvent h (.setMute mask setting))

/-- SET_LANES (R139). -/
def execSetLanes (h : DirHeader) (rate l0 l1 l2 l3 : BitVec 32) (s : State) :
    Host.Outcome State Fault Refusal :=
  .next (s.itemEvent h (.setLanes rate l0 l1 l2 l3))

/-- SET_MODE (R187). -/
def execSetMode (h : DirHeader) (mode : Byte) (s : State) :
    Host.Outcome State Fault Refusal :=
  .next (s.itemEvent h (.setMode mode))

/-- SET_CLASS_MAP (R146). -/
def execSetClassMap (h : DirHeader) (prios : Vector Byte 8) (s : State) :
    Host.Outcome State Fault Refusal :=
  .next (s.itemEvent h (.setClassMap prios))

/-- SET_SOURCE_ENTRY (R146). -/
def execSetSourceEntry (h : DirHeader) (index : Byte) (node : NodeId) (prio : Byte) (s : State) :
    Host.Outcome State Fault Refusal :=
  .next (s.itemEvent h (.setSourceEntry index node prio))

/-- SET_PRIORITY_WEIGHTS (R146). -/
def execSetPriorityWeights (h : DirHeader) (stream cls source : Byte) (s : State) :
    Host.Outcome State Fault Refusal :=
  .next (s.itemEvent h (.setPriorityWeights stream cls source))

/-- SET_QUEUES (R147). -/
def execSetQueues (h : DirHeader) (p : QueueParams) (s : State) :
    Host.Outcome State Fault Refusal :=
  .next (s.itemEvent h (.setQueues p))

/-- SET_RELAY_MARGIN (R153). -/
def execSetRelayMargin (h : DirHeader) (ms : Byte) (s : State) :
    Host.Outcome State Fault Refusal :=
  .next (s.itemEvent h (.setRelayMargin ms))

/-- SET_STORE (R71). -/
def execSetStore (h : DirHeader) (mark : BitVec 16) (s : State) :
    Host.Outcome State Fault Refusal :=
  .next (s.itemEvent h (.setStore mark))

/-- SET_LINES (R192). -/
def execSetLines (h : DirHeader) (mask mode compare forceMask wake : Byte) (s : State) :
    Host.Outcome State Fault Refusal :=
  .next (s.itemEvent h (.setLines mask mode compare forceMask wake))

/-- CLEAR_ATTENTION (R175, R176). -/
def execClearAttention (h : DirHeader) (partMask : BitVec 16) (index streamMask : Byte) (s : State) :
    Host.Outcome State Fault Refusal :=
  .next (s.itemEvent h (.clearAttention partMask index streamMask))

/-- QUERY (R167, R168, R171). -/
def execQuery (h : DirHeader) (reqs : List QueryRequest) (s : State) :
    Host.Outcome State Fault Refusal :=
  .next (s.itemEvent h (.query reqs))

/-- RESET (R169). -/
def execReset (h : DirHeader) (s : State) : Host.Outcome State Fault Refusal := .next (s.itemEvent h .reset)

/-- DIRECTIVE_TAKEN (R161, R162). -/
def execDirectiveTaken (s : State) : Host.Outcome State Fault Refusal := .next (s.take .directives State.takeDirective)

end Sys2Proof.Machine
end

