-- ==== Sys2Proof/Machine/RelayCommands.lean ====
section
/-! DEFINITION. The commands of the Relay Unit and the satellite link. -/

namespace Sys2Proof.Machine

/-- DIRECTIVE_RELAY_COPY (R36, R86, R148). -/
def execDirectiveRelayCopy (s : State) : Host.Outcome State Fault Refusal := .next (s.take .relay State.copyDirective)

/-- SAT_DET_RISE (R149). -/
def execSatDetRise (s : State) : Host.Outcome State Fault Refusal := .next s.satRise

/-- QUALIFICATION_EXPIRY (R149). -/
def execQualificationExpiry (s : State) : Host.Outcome State Fault Refusal := .next s.qualified

/-- SAT_DET_FALL (R149, R150). -/
def execSatDetFall (s : State) : Host.Outcome State Fault Refusal := .next s.satFall

/-- SELECTION (R151 to R154). -/
def execSelection (s : State) : Host.Outcome State Fault Refusal := .next s.select

/-- TRANSMISSION_END (R154). -/
def execTransmissionEnd (s : State) : Host.Outcome State Fault Refusal := .next s.endTransmission

/-- REGENERATION_TIMER_EXPIRY (R155). -/
def execRegenerationTimerExpiry (s : State) : Host.Outcome State Fault Refusal := .next s.regenExpiry

/-- SATELLITE_FRAME_RECEIVED (R156, R198); its only code, REPORT_DROP, gathers nothing (R177). -/
def execSatelliteFrameReceived (rx : Reception) (s : State) : Host.Outcome State Fault Refusal :=
  .next (s.receiveFrame rx)

end Sys2Proof.Machine
end

