-- ==== Sys2Proof/Machine/LineCommands.lean ====
section
/-! DEFINITION. The presence timer and the Line Monitor. -/

namespace Sys2Proof.Machine

/-- PRESENCE_TIMER_EXPIRY (R185); its only code, REPORT_DROP, gathers nothing (R177). -/
def execPresenceTimerExpiry (s : State) : Host.Outcome State Fault Refusal := .next s.presenceExpiry

/-- LINE_SAMPLING (R188 to R191). -/
def execLineSampling (levels : BitVec 4) (s : State) :
    Host.Outcome State Fault Refusal :=
  .next (s.sampleLines levels).endEvent

end Sys2Proof.Machine
end

