-- ==== Sys2Proof/Machine/Dispatch.lean ====
section
/-! DEFINITION. The dispatch: one arm per command, each a direct call of its meaning. -/

namespace Sys2Proof.Machine

def exec (i : Instr) (s : State) : Host.Outcome State Fault Refusal :=
  match i with
  | .powerOnReset => Sys2Proof.Machine.execPowerOnReset s
  | .selectAssertion => Sys2Proof.Machine.execSelectAssertion s
  | .writeSelect => Sys2Proof.Machine.execWriteSelect s
  | .readSelect => Sys2Proof.Machine.execReadSelect s
  | .badOpening b => Sys2Proof.Machine.execBadOpening b s
  | .earlyDeassertion => Sys2Proof.Machine.execEarlyDeassertion s
  | .writeSelectEnd bytes ragged => Sys2Proof.Machine.execWriteSelectEnd bytes ragged s
  | .readSelectEnd shifted => Sys2Proof.Machine.execReadSelectEnd shifted s
  | .dispatch => Sys2Proof.Machine.execDispatch s
  | .audioAdmission => Sys2Proof.Machine.execAudioAdmission s
  | .parityAdmission => Sys2Proof.Machine.execParityAdmission s
  | .recoveryStart => Sys2Proof.Machine.execRecoveryStart s
  | .recoveryCompletion => Sys2Proof.Machine.execRecoveryCompletion s
  | .takingABeat => Sys2Proof.Machine.execTakingABeat s
  | .gapExpiry => Sys2Proof.Machine.execGapExpiry s
  | .holdoverExpiry => Sys2Proof.Machine.execHoldoverExpiry s
  | .readerPeriod r => Sys2Proof.Machine.execReaderPeriod r s
  | .channelPeriod c => Sys2Proof.Machine.execChannelPeriod c s
  | .laneRateChange => Sys2Proof.Machine.execLaneRateChange s
  | .assignNode h serial node groups => Sys2Proof.Machine.execAssignNode h serial node groups s
  | .setReporting h dest mask => Sys2Proof.Machine.execSetReporting h dest mask s
  | .setTimeSource h source allowance gap holdover => Sys2Proof.Machine.execSetTimeSource h source allowance gap holdover s
  | .setRegen h ms => Sys2Proof.Machine.execSetRegen h ms s
  | .loadStream h p => Sys2Proof.Machine.execLoadStream h p s
  | .openStream h index => Sys2Proof.Machine.execOpenStream h index s
  | .closeStream h index => Sys2Proof.Machine.execCloseStream h index s
  | .unloadStream h index => Sys2Proof.Machine.execUnloadStream h index s
  | .mapChannel h chan primary overlay gP gO duck => Sys2Proof.Machine.execMapChannel h chan primary overlay gP gO duck s
  | .setGain h mask gP gO duck => Sys2Proof.Machine.execSetGain h mask gP gO duck s
  | .setMute h mask setting => Sys2Proof.Machine.execSetMute h mask setting s
  | .setLanes h rate l0 l1 l2 l3 => Sys2Proof.Machine.execSetLanes h rate l0 l1 l2 l3 s
  | .setMode h mode => Sys2Proof.Machine.execSetMode h mode s
  | .setClassMap h prios => Sys2Proof.Machine.execSetClassMap h prios s
  | .setSourceEntry h index node prio => Sys2Proof.Machine.execSetSourceEntry h index node prio s
  | .setPriorityWeights h stream cls source => Sys2Proof.Machine.execSetPriorityWeights h stream cls source s
  | .setQueues h p => Sys2Proof.Machine.execSetQueues h p s
  | .setRelayMargin h ms => Sys2Proof.Machine.execSetRelayMargin h ms s
  | .setStore h mark => Sys2Proof.Machine.execSetStore h mark s
  | .setLines h mask mode compare forceMask wake => Sys2Proof.Machine.execSetLines h mask mode compare forceMask wake s
  | .clearAttention h partMask index streamMask => Sys2Proof.Machine.execClearAttention h partMask index streamMask s
  | .query h reqs => Sys2Proof.Machine.execQuery h reqs s
  | .reset h => Sys2Proof.Machine.execReset h s
  | .directiveRelayCopy => Sys2Proof.Machine.execDirectiveRelayCopy s
  | .satDetRise => Sys2Proof.Machine.execSatDetRise s
  | .qualificationExpiry => Sys2Proof.Machine.execQualificationExpiry s
  | .satDetFall => Sys2Proof.Machine.execSatDetFall s
  | .selection => Sys2Proof.Machine.execSelection s
  | .transmissionEnd => Sys2Proof.Machine.execTransmissionEnd s
  | .regenerationTimerExpiry => Sys2Proof.Machine.execRegenerationTimerExpiry s
  | .satelliteFrameReceived rx => Sys2Proof.Machine.execSatelliteFrameReceived rx s
  | .presenceTimerExpiry => Sys2Proof.Machine.execPresenceTimerExpiry s
  | .lineSampling levels => Sys2Proof.Machine.execLineSampling levels s
  | .directiveTaken => Sys2Proof.Machine.execDirectiveTaken s

end Sys2Proof.Machine
end

