-- ==== Sys2Proof/Machine/Step.lean ====
section
/-! DEFINITION. The step: the command at the front of the queue, or one reference cycle on an empty queue
(DESIGN CHOICE, log 2). A row whose condition does not hold has no effect (DESIGN CHOICE, log 1). -/

namespace Sys2Proof.Machine

/-- The command at the front of `pending`, run on the state with the queue's rest; on an empty queue one cycle of REFCLK
passes (DESIGN CHOICE, log 2). -/
def step (s : State) : Host.Outcome State Fault Refusal :=
  match s.pending with
  | [] => .next s.tick
  | c :: rest => exec c { s with pending := rest }

/-- The state with the command that a word spells put at the front of the queue; as it was where the word spells none, which
no word does (DESIGN CHOICE, log 5). -/
def State.withFetchWord (s : State) (nbits w : Nat) : State :=
  match decodeTableWord nbits w with
  | some c => { s with pending := c :: s.pending }
  | none => s

end Sys2Proof.Machine
end

