-- ==== Sys2Proof/Machine/ItemCodec.lean ====
section
/-! DEFINITION. The directive items as bytes (R195): each item's code and body as the coordinator sends them, the payload of a
whole DIRECTIVE, and the row of the command table that stands for an item. -/

namespace Sys2Proof.Machine

/-- The code of an item (R195). -/
def Item.code : Item → Nat
  | .assignNode _ _ _ => 1 | .setReporting _ _ => 2 | .setTimeSource _ _ _ _ => 3 | .setRegen _ => 4
  | .loadStream _ => 5 | .openStream _ => 6 | .closeStream _ => 7 | .unloadStream _ => 8
  | .mapChannel _ _ _ _ _ _ => 9 | .setGain _ _ _ _ => 10 | .setMute _ _ => 11 | .setLanes _ _ _ _ _ => 12
  | .setMode _ => 13 | .setClassMap _ => 14 | .setSourceEntry _ _ _ => 15 | .setPriorityWeights _ _ _ => 16
  | .setQueues _ => 17 | .setRelayMargin _ => 18 | .setStore _ => 19 | .setLines _ _ _ _ _ => 20
  | .clearAttention _ _ _ => 21 | .query _ => 22 | .reset => 23

/-- The body of an item, in field order (R195). -/
def Item.body : Item → List Byte
  | .assignNode serial node groups =>
    leBytes 6 serial.toNat ++ leBytes 2 node.toNat ++ groups.flatMap (fun g => leBytes 2 g.toNat)
  | .setReporting dest mask => leBytes 2 dest.toNat ++ leBytes 2 mask.toNat
  | .setTimeSource source allowance gap holdover =>
    leBytes 2 source.toNat ++ leBytes 4 allowance.toNat ++ [gap] ++ leBytes 2 holdover.toNat
  | .setRegen ms => leBytes 2 ms.toNat
  | .loadStream p =>
    [p.index] ++ leBytes 2 p.key.toNat ++ leBytes 4 p.rate.toNat ++ [p.channels] ++ leBytes 2 p.n.toNat ++ [p.depth]
      ++ leBytes 2 p.quota.toNat ++ [p.g, p.flags, p.prio] ++ leBytes 2 p.tol.toNat ++ leBytes 2 p.horizon.toNat
  | .openStream index => [index]
  | .closeStream index => [index]
  | .unloadStream index => [index]
  | .mapChannel chan primary overlay gP gO duck =>
    [chan, primary.stream, primary.chan, overlay.stream, overlay.chan] ++ leBytes 2 gP.toNat ++ leBytes 2 gO.toNat
      ++ leBytes 2 duck.toNat
  | .setGain mask gP gO duck => [mask] ++ leBytes 2 gP.toNat ++ leBytes 2 gO.toNat ++ leBytes 2 duck.toNat
  | .setMute mask setting => [mask, setting]
  | .setLanes rate l0 l1 l2 l3 =>
    leBytes 4 rate.toNat ++ leBytes 4 l0.toNat ++ leBytes 4 l1.toNat ++ leBytes 4 l2.toNat ++ leBytes 4 l3.toNat
  | .setMode mode => [mode]
  | .setClassMap prios => prios.toList
  | .setSourceEntry index node prio => [index] ++ leBytes 2 node.toNat ++ [prio]
  | .setPriorityWeights stream cls source => [stream, cls, source]
  | .setQueues p => [p.count] ++ p.map.toList ++ p.types.toList ++ p.weights.toList
  | .setRelayMargin ms => [ms]
  | .setStore mark => leBytes 2 mark.toNat
  | .setLines mask mode compare forceMask wake => [mask, mode, compare, forceMask, wake]
  | .clearAttention partMask index streamMask => leBytes 2 partMask.toNat ++ [index, streamMask]
  | .query reqs => reqs.flatMap (fun q => [q.type, q.arg, q.flags])
  | .reset => []

/-- An item as it is sent: code, body length, body (R195). -/
def encodeItem (it : Item) : List Byte :=
  [BitVec.ofNat 8 (Item.code it), BitVec.ofNat 8 (Item.body it).length] ++ Item.body it

/-- The payload of a DIRECTIVE: the item count and the items (R161, R194). -/
def encodeItems (its : List Item) : List Byte := BitVec.ofNat 8 its.length :: its.flatMap encodeItem

/-- The row of the command table that stands for a directive of one item (DESIGN CHOICE, log 3). -/
def itemRow (h : DirHeader) : Item → Instr
  | .assignNode serial node groups => .assignNode h serial node groups
  | .setReporting dest mask => .setReporting h dest mask
  | .setTimeSource source allowance gap holdover => .setTimeSource h source allowance gap holdover
  | .setRegen ms => .setRegen h ms
  | .loadStream p => .loadStream h p
  | .openStream index => .openStream h index
  | .closeStream index => .closeStream h index
  | .unloadStream index => .unloadStream h index
  | .mapChannel chan primary overlay gP gO duck => .mapChannel h chan primary overlay gP gO duck
  | .setGain mask gP gO duck => .setGain h mask gP gO duck
  | .setMute mask setting => .setMute h mask setting
  | .setLanes rate l0 l1 l2 l3 => .setLanes h rate l0 l1 l2 l3
  | .setMode mode => .setMode h mode
  | .setClassMap prios => .setClassMap h prios
  | .setSourceEntry index node prio => .setSourceEntry h index node prio
  | .setPriorityWeights stream cls source => .setPriorityWeights h stream cls source
  | .setQueues p => .setQueues h p
  | .setRelayMargin ms => .setRelayMargin h ms
  | .setStore mark => .setStore h mark
  | .setLines mask mode compare forceMask wake => .setLines h mask mode compare forceMask wake
  | .clearAttention partMask index streamMask => .clearAttention h partMask index streamMask
  | .query reqs => .query h reqs
  | .reset => .reset h

end Sys2Proof.Machine
end

