-- ==== Sys2Proof/Safety.lean ====
section
/-! DEFINITION. What a good state of the part is: the rules the manual states over the whole part, as predicates of a state; and
the two ways a directive of one item ends, in whose terms the statements about items are made. -/

namespace Sys2Proof.Machine

/-! ## Rules over the whole part -/

/-- The intake never holds more than 4 frames, the FILLING buffer counted (R26). -/
def IntakeBounded (s : State) : Prop := s.port.used ≤ 4

/-- The report queue never holds more than 8 frames (R173). -/
def ReportBounded (s : State) : Prop := s.du.reportQueue.length ≤ 8

/-- Each relay queue never holds more than 32 entries (R144). -/
def RelayBounded (s : State) : Prop := ∀ q : Fin 4, (s.relay.queue q).entries.length ≤ 32

/-- The rate R always lies within -4096 .. +4096 (R13). -/
def RateBounded (s : State) : Prop := -4096 ≤ s.tlu.rate ∧ s.tlu.rate ≤ 4096

/-- No two stream entries outside IDLE hold the same key (R45). -/
def KeysDistinct (s : State) : Prop :=
  ∀ i j : Fin 8, i ≠ j → (s.stream i).state ≠ .idle → (s.stream j).state ≠ .idle → (s.stream i).key ≠ (s.stream j).key

/-- The sum of the ring depths of all stream entries not in IDLE never exceeds 256 (R45). -/
def SlotsBounded (s : State) : Prop := s.slotsReserved ≤ 256

/-- Whenever the time state is UNLOCKED or ACQUIRING, no stream is PRIMED, PLAYING or DRAINING (R19). -/
def TimeGuardsStreams (s : State) : Prop :=
  s.tlu.timeState = .unlocked ∨ s.tlu.timeState = .acquiring → ∀ i : Fin 8, (s.stream i).running = false

/-- Every level and every effective gain of a channel lies within its range (R127, R135). -/
def GainsBounded (s : State) : Prop :=
  ∀ c : Fin 8, (s.channel c).gP ≤ 32767 ∧ (s.channel c).gO ≤ 32767 ∧ (s.channel c).duck ≤ 16384
    ∧ (s.channel c).eP ≤ 32767 ∧ (s.channel c).eO ≤ 32767

/-- The presence timer is present exactly while the node ID is 0 (R185). -/
def PresenceTimed (s : State) : Prop := s.ident.presenceTimer.isSome = true ↔ s.ident.node = 0

/-- The regeneration timer is present exactly while the three conditions of R155 hold. -/
def RegenTimed (s : State) : Prop :=
  s.relay.timer.isSome = true ↔ s.tlu.hasEstimate = true ∧ s.relay.link = .up ∧ s.relay.interval ≠ 0

/-- The pending anchor is present only while a break sequence is, and the second break only while the pending anchor is
(R43). -/
def BreaksOrdered (s : State) : Prop :=
  ∀ i : Fin 8, ((s.stream i).pendingAnchor.isSome = true → (s.stream i).breakSeq.isSome = true)
    ∧ ((s.stream i).secondBreak.isSome = true → (s.stream i).pendingAnchor.isSome = true)

/-- The mismatch run lies within 0 .. 3 and the MISSED run within 0 .. 7 (R43). -/
def RunsBounded (s : State) : Prop :=
  ∀ i : Fin 8, (s.stream i).mismatchRun ≤ 3 ∧ (s.stream i).missedRun ≤ 7

/-- STANDBY never holds a local-play stream that needs output periods (R187). -/
def StandbyQuiet (s : State) : Prop := s.ident.mode = .standby → ∀ i : Fin 8, (s.stream i).needsPeriods = false

/-- The request list holds no index twice (R90). -/
def RequestsOnce (s : State) : Prop := s.requests.Nodup

/-- The held cells are in rising order of number, each below 1024, with one holder or two (R67). -/
def PoolFormed (s : State) : Prop := s.pool.wf = true

/-- The cells charged to a stream never exceed its quota (R70); an IDLE record has none, and the model holds its quota at 0
(DESIGN CHOICE, log 31). -/
def ChargesBounded (s : State) : Prop :=
  ∀ i : Fin 8, s.pool.charged i ≤ (s.stream i).quota ∧ ((s.stream i).state = .idle → (s.stream i).quota = 0)

/-- Each stream's ring has as many slots as its depth, at most 64 (R43, R73). -/
def RingsFormed (s : State) : Prop :=
  ∀ i : Fin 8, (s.stream i).ring.length = (s.stream i).depth ∧ (s.stream i).depth ≤ 64

/-- A stream in IDLE, LOADED or LISTENING has no anchor, and every slot of the ring of a stream without an anchor is EMPTY
(R43, R46, R60, R74). -/
def RingsAnchored (s : State) : Prop :=
  ∀ i : Fin 8, ((s.stream i).state = .idle ∨ (s.stream i).state = .loaded ∨ (s.stream i).state = .listening →
      (s.stream i).anchor = none)
    ∧ ((s.stream i).anchor = none → ∀ sl ∈ (s.stream i).ring, sl.state = .empty)

/-- No code is gathered between events: the notice of R177 is formed before an event ends (DESIGN CHOICE, log 28). -/
def NoneGathered (s : State) : Prop := s.du.gathered = false

/-! ## Frames -/

/-- A frame that passes the checks of R29 and R30: size, CRC, payload length field, kind, version and continuity. -/
def FramePasses (bs : List Byte) : Prop :=
  20 ≤ bs.length ∧ bs.length ≤ 1460
    ∧ bs.drop (bs.length - 4) = leBytes 4 (crc32 (bs.take (bs.length - 4))).toNat
    ∧ field bs 14 2 = bs.length - 20
    ∧ 1 ≤ (byteAt bs 0).toNat % 16 ∧ (byteAt bs 0).toNat % 16 ≤ 6 ∧ (byteAt bs 0).toNat / 16 = 1
    ∧ ((byteAt bs 0).toNat % 16 = 1 → (byteAt bs 1).toNat / 8 % 4 ≤ 2)

/-- The state once its only consumer has taken the head frame: the buffer is FREE and the frame has left the list (R31). -/
def headTaken (s : State) : State := { s with port := { s.port with intake := s.port.intake.tail, handed := [] } }

/-- A stream that a flush has emptied (R60): no anchor, break, end or parity, no frame in its ring, both runs 0. -/
def Flushed (st : Stream) : Prop :=
  st.anchor = none ∧ st.pendingAnchor = none ∧ st.breakSeq = none ∧ st.secondBreak = none ∧ st.endSeq = none
    ∧ st.mismatchRun = 0 ∧ st.missedRun = 0 ∧ st.holder = none ∧ st.virt = .fresh
    ∧ ∀ sl ∈ st.ring, sl = Slot.vacant

/-- The part outside one stream's record, the pool, the request list, the recovery operation, the readers, the Relay Unit,
the Directive Unit and the counters: what no admission touches (R75, R91). -/
def AdmissionFrame (i : Fin 8) (s t : State) : Prop :=
  t.lc = s.lc ∧ t.firstCycle = s.firstCycle ∧ t.tlu = s.tlu ∧ t.lanes = s.lanes ∧ t.ident = s.ident ∧ t.lines = s.lines
    ∧ t.pending = s.pending ∧ ∀ j : Fin 8, j ≠ i → t.stream j = s.stream j

/-- What a detection leaves of a state `s` whose Line Monitor has become `l` (R131, R189, R191): the unmasked pattern captured
with masked lines and lines of no accepted level low, LINE_EVENTS counted, LINE set, the named force-mute flags set, and,
with wake enabled in STANDBY, ACTIVE entered with the effective gains at 0. -/
def DetectionLeaves (l : LineMonitor) (s u : State) : Prop :=
  let wakes := l.wake = true ∧ s.ident.mode = .standby
  (∃ pattern : BitVec 4, u.lines = { l with capture := some pattern }
      ∧ ∀ n : Fin 4, pattern.getLsbD n.val = (l.mask.getLsbD n.val && l.accepted[n] == some true))
    ∧ u.partSet .line = true ∧ (∀ c : PartCode, c ≠ .line → u.partSet c = s.partSet c)
    ∧ (∀ c : PartCounter, u.partCount c = if c = .lineEvents ∨ (c = .lineWakes ∧ wakes) then satInc (s.partCount c)
        else s.partCount c)
    ∧ (∀ c : Fin 8, u.channel c = { s.channel c with
        forceMute := (s.channel c).forceMute || l.forceMask.getLsbD c.val
        eP := if wakes then 0 else (s.channel c).eP
        eO := if wakes then 0 else (s.channel c).eO })
    ∧ u = { s with
        lines := u.lines, counters := u.counters, channels := u.channels
        du := { s.du with attention := u.du.attention, gathered := u.du.gathered }
        ident := { s.ident with mode := if wakes then .active else s.ident.mode } }

/-! ## Frames of a stream, and where its readers stand -/

/-- `x` follows `y` in the circle of sequences (00_scope.md section 5.2). -/
abbrev Follows (x y : Seq) : Prop := 1 ≤ (x - y).toNat ∧ (x - y).toNat ≤ 32767

/-- `q` follows a sequence that is present. -/
def Passed (q : Seq) (k : Option Seq) : Bool := k.any (fun x => decide (Follows q x))

/-- The expected stamp of extended index `e` from an anchor time, rounded to the nearest tick, a half upward (R49). -/
def stampOf (st : Stream) (a : Time) (e : Nat) : Time :=
  a + BitVec.ofNat 48 ((2 * (e * st.n * 24576000) + st.fs) / (2 * st.fs))

/-- Stream `i` is outside IDLE and the only such stream with the frame's key (R76). -/
def Keyed (s : State) (f : InFrame) (i : Fin 8) : Prop :=
  (s.stream i).state ≠ .idle ∧ (s.stream i).key = frameKey f.bytes
    ∧ ∀ j : Fin 8, j ≠ i → (s.stream j).state = .idle ∨ (s.stream j).key ≠ frameKey f.bytes

/-- Reader `r`, yet to be taken in the output period `p`, is a reader of stream `i` as it was at the edge, reads its channel `ch`,
and stands in its current segment, anchored at `an`, where its house-time position, held monotone, is `q` (R110 to R112). -/
def Stands (s : State) (p : OutputPeriod) (r : ReaderId) (i ch : Fin 8) (an : Anchor) (q : Nat) : Prop :=
  s.lanes.period = some p ∧ p.dueSource r = some (i, ch) ∧ s.readerStream r = some i ∧ (s.stream i).running = true ∧ (s.stream i).localPlay = true
    ∧ (s.readerPos r).seg = .current ∧ (s.stream i).anchor = some an
    ∧ ∃ h, s.tlu.htEst p.edge = some h
      ∧ 0 ≤ signed48 (h + BitVec.ofNat 48 (s.readerLatency r)) an.a
      ∧ q = max ((s.readerPos r).last.getD 0)
          ((signed48 (h + BitVec.ofNat 48 (s.readerLatency r)) an.a).toNat * (s.stream i).fs / 96000)

/-- Frame `e` of the current segment is not past the end, when the end lies in that segment (R113). -/
def BeforeEnd (st : Stream) (an : Anchor) (e : Nat) : Prop :=
  ∀ x, st.endSeq = some x → Passed x st.breakSeq = true ∨ e ≤ an.eBase + (x - an.base).toNat

/-- Frame `e` of the current segment is not past the break (R113). -/
def BeforeBreak (st : Stream) (an : Anchor) (e : Nat) : Prop :=
  ∀ k, st.breakSeq = some k → e ≤ an.eBase + (k - an.base).toNat

/-! ## Parity groups, the holder test and a recovery's target (R74, R90, R96, R97, R102) -/

/-- The group of the parity `hd` has expired (R96): a sequence of it precedes the base or follows the break, or a slot of it is
MISSED. -/
def GroupExpired (st : Stream) (an : Anchor) (hd : ParityHolder) : Prop :=
  ∃ q ∈ groupSeqs hd.first hd.g, Follows an.base q ∨ Passed q st.breakSeq = true ∨ (st.slotOf an q).state = .missed

/-- Every slot of the group is FILLED or RECOVERED (R96). -/
def GroupComplete (st : Stream) (an : Anchor) (hd : ParityHolder) : Prop :=
  ∀ q ∈ groupSeqs hd.first hd.g, (st.slotOf an q).state = .filled ∨ (st.slotOf an q).state = .recovered

/-- Exactly one slot of the group is EMPTY, and the others are FILLED or RECOVERED (R96). -/
def GroupRecoverable (st : Stream) (an : Anchor) (hd : ParityHolder) : Prop :=
  (groupSeqs hd.first hd.g).countP (fun q => (st.slotOf an q).state == .empty) = 1
    ∧ ∀ q ∈ groupSeqs hd.first hd.g, (st.slotOf an q).state = .empty ∨ (st.slotOf an q).state = .filled
      ∨ (st.slotOf an q).state = .recovered

/-- The test empties the holder (R96). -/
def GroupSpent (st : Stream) (an : Anchor) (hd : ParityHolder) : Prop := GroupExpired st an hd ∨ GroupComplete st an hd

/-- A record with one of its counters counted once. -/
def Stream.counted (st : Stream) (c : StreamCounter) : Stream :=
  { st with counters := st.counters.set c.idx (satInc (st.count c)) }

/-- HOLDER_TEST on the parity `hd` of stream `i`, by the lines of R96 in their order: it finds the record `st` and the request
list `requests`, and leaves `st'` and `requests'`. The cells of a parity that is emptied (`GroupSpent`) are released. -/
def HolderTested (i : Fin 8) (an : Anchor) (hd : ParityHolder) (st : Stream) (requests : List (Fin 8)) (st' : Stream)
    (requests' : List (Fin 8)) : Prop :=
  (GroupExpired st an hd →
    st' = { st.counted .parityExpired with holder := none } ∧ requests' = requests.filter (fun j => j != i))
  ∧ (¬GroupExpired st an hd → GroupComplete st an hd →
    st' = { st.counted .groupComplete with holder := none } ∧ requests' = requests.filter (fun j => j != i))
  ∧ (¬GroupExpired st an hd → GroupRecoverable st an hd →
    (i ∈ requests → st' = st ∧ requests' = requests)
    ∧ (i ∉ requests → st' = st.counted .recoveryRequests ∧ requests' = requests ++ [i]))
  ∧ (¬GroupSpent st an hd → ¬GroupRecoverable st an hd → st' = st ∧ requests' = requests.filter (fun j => j != i))

/-- The ring of stream `i` when the slots that `gone` names, none of them EMPTY, are emptied in `ring` (R88, R102): a RECOVERING
target of the stream's operation in flight returns to EMPTY when a slot of one of its operands is among them. -/
def emptiedRing (s : State) (i : Fin 8) (ring : List Slot) (gone : Slot → Bool) : List Slot :=
  let left := ring.map (fun sl => if gone sl then Slot.vacant else sl)
  match s.recovery with
  | none => left
  | some op =>
    if op.stream = some i ∧ (left.getD op.position Slot.vacant).state = .recovering
        ∧ (∃ sl ∈ ring, gone sl = true ∧ sl.seq ∈ op.operands) then
      left.set op.position Slot.vacant
    else left

/-! ## A copy offered for relay (R84, R95, R148) -/

/-- The outcome `o` of an event that has left `x`, no code gathered, and offers the frame `f` of stream `i` for relay with cells
of its own: while the link is not UP declined and counted; with 32 entries in its queue dropped and counted, and RELAY_DROP
set; otherwise an entry of k new cells that hold its words, owned by the stream and so charged to it. No cells are taken where
no entry is made, and the low-water mark is judged where some are. -/
def CopyOffered (i : Fin 8) (kind : EntryKind) (f : InFrame) (x : State) (o : Host.Outcome State Fault Refusal) : Prop :=
  let st := x.stream i
  let target := x.relay.queueFor (some st.prio) (frameClass f.bytes) (frameSource f.bytes)
  (x.relay.link ≠ .up → o = .next (x.bump .relayLinkDown))
  ∧ (x.relay.link = .up → 32 ≤ (x.relay.queue target).entries.length →
    ∃ u : State, o = .next u.endEvent
      ∧ (∀ c : PartCode, u.partSet c = (x.partSet c || c == .relayDrop))
      ∧ u = ({ x with du := { x.du with attention := u.du.attention, gathered := u.du.gathered } }).bump .relayDrop)
  ∧ (x.relay.link = .up → (x.relay.queue target).entries.length < 32 → PoolFormed x → st.k ≤ x.pool.free →
    f.bytes.length = framePayloadLength f.bytes + 20 → framePayloadLength f.bytes = st.n * st.channels * 3 →
    ∃ (u : State) (cells : List Nat), o = .next u.endEvent
      ∧ cells.length = st.k
      ∧ u.relay = { x.relay with queues := x.relay.queues.set target { x.relay.queue target with
          entries := (x.relay.queue target).entries
            ++ [⟨kind, some i, f.bytes.take 16, frameStamp f.bytes, f.bytes.length, cells⟩] } }
      ∧ (∀ j : Nat, j < st.n * st.channels →
          u.pool.wordAt cells j = (payloadWords (framePayload f.bytes)).getD j 0)
      ∧ u.pool.free + st.k = x.pool.free ∧ u.pool.charged i = x.pool.charged i + st.k
      ∧ (∀ c ∈ x.pool.held, c ∈ u.pool.held)
      ∧ (∀ c ∈ u.pool.held, c.id ∈ cells → c.owner = some i ∧ c.holders = 1)
      ∧ (∀ c : PartCode, u.partSet c = (x.partSet c || decide (c = .storeLow ∧ u.pool.free < x.pool.lowWater)))
      ∧ u = ({ x with
          relay := u.relay, pool := u.pool
          du := { x.du with attention := u.du.attention, gathered := u.du.gathered } }).bump .relayCopies)

/-! ## Requests of a QUERY (R167) -/

/-- A request that passes the checks of R167. -/
def RequestPasses (r : QueryRequest) : Prop :=
  1 ≤ r.type.toNat ∧ r.type.toNat ≤ 8 ∧ (r.type = 3 → r.arg.toNat < 8) ∧ (r.type = 7 → r.arg.toNat < 8 ∨ r.arg = 0xFF)

/-! ## Records (R196) -/

/-- The order of the part counters in the COUNTERS record: the tables of R23, R42, then UNKNOWN_KEY and PARITY_UNKNOWN_KEY, R158's
and R179's, LINE_EVENTS and LINE_WAKES (R196). -/
def partOrder : List PartCounter :=
  [.beatsUsed, .beatsForeign, .beatsMalformed, .epochRestarts, .windowCloses, .stepStrikes, .steps, .holdovers, .timeLosses,
   .beatsRegenerated,
   .framesIn, .framesQueued, .refusedIntakeFull, .refusedLength, .refusedCheck, .refusedBadHeader, .badOpenings,
   .wrongDirection, .directivesTaken, .directivesPassed, .directivesUnaddressed, .framesOut,
   .unknownKey, .parityUnknownKey,
   .relayCopies, .relayLinkDown, .relayDrop, .relayStale, .relaySent, .relayLinkDiscards, .regenReplaced, .linkUps,
   .linkDowns, .satRxForwarded, .satRxBad, .satRxWrongKind,
   .directivesCompleted, .directivesFailed, .itemsApplied, .itemsSkipped, .itemsUnassigned, .repliesQueued,
   .noticesQueued, .reportDrop,
   .lineEvents, .lineWakes]

/-- The order of a stream's counters in the COUNTERS record: the tables of R65, R105 and R121 (R196). -/
def streamOrder : List StreamCounter :=
  [.accepted, .closed, .afterEnd, .notLocked, .sizeMismatch, .late, .ahead, .segmentLimit, .duplicate, .stampMismatch,
   .early, .quota, .storeFull, .anchors, .reanchors, .starvations, .flushes, .switches, .rebases, .breaksIgnored,
   .missedSlots,
   .parityAccepted, .parityNotAnchored, .parityNoParity, .paritySizeMismatch, .parityLate, .parityAhead,
   .parityAfterEnd, .parityQuota, .parityStoreFull, .groupComplete, .parityReplaced, .parityExpired, .recoveryRequests,
   .recoveryNoStore, .recovered, .recoveryDiscarded,
   .concealedRepeat, .concealedSilence]

/-- `n` bytes of a record from offset `off` on are the value `v`, least significant first. -/
def Holds (body : List Byte) (off n v : Nat) : Prop := (body.drop off).take n = leBytes n v

/-- The value of a presence or flags byte: bit k is set when the k-th of the flags holds (R196), and the bits that no flag is
named for are 0 (log 20, the model's choice). -/
def bitsValue : List Bool → Nat
  | [] => 0
  | b :: bs => (if b then 1 else 0) + 2 * bitsValue bs

/-- A reader's 13 bytes in CHANNEL_STATUS, from offset `o` (R126, R196): flags, last position, frame index. -/
def ReaderLayout (s : State) (body : List Byte) (o : Nat) (r : ReaderId) (src : Option Source) (p : ReaderPos) : Prop :=
  Holds body o 1 (bitsValue [decide (p.seg = .pending), p.last.isSome, p.frame.isSome,
      src.any (fun x => s.lead x.stream == some r), src.any (fun x => s.trail x.stream == some r)])
    ∧ Holds body (o + 1) 8 (p.last.getD 0) ∧ Holds body (o + 9) 4 (p.frame.getD 0)

/-- A source's two bytes in CHANNEL_STATUS (R195, R196): the channel byte of an absent source is a free value (log 16). -/
def SourceLayout (body : List Byte) (o : Nat) (src : Option Source) : Prop :=
  (src = none → Holds body o 1 255) ∧ ∀ x, src = some x → Holds body o 1 x.stream.val ∧ Holds body (o + 1) 1 x.chan.val

/-- The 49 bytes of channel `c` in CHANNEL_STATUS, from offset `o` (R126, R132, R141, R196). -/
def ChannelLayout (s : State) (body : List Byte) (o : Nat) (c : Fin 8) : Prop :=
  let ch := s.channel c
  let playing := ch.overlaySrc.any (fun x => (s.stream x.stream).state == .playing || (s.stream x.stream).state == .draining)
  let silenced := ch.mute || ch.forceMute
  SourceLayout body o ch.primarySrc ∧ SourceLayout body (o + 2) ch.overlaySrc
    ∧ Holds body (o + 4) 2 ch.gP ∧ Holds body (o + 6) 2 ch.gO ∧ Holds body (o + 8) 2 ch.duck
    ∧ Holds body (o + 10) 1 (bitsValue [ch.mute, ch.forceMute])
    ∧ Holds body (o + 11) 2 (if silenced then 0 else if playing then ch.gP * ch.duck / 16384 else ch.gP)
    ∧ Holds body (o + 13) 2 (if silenced then 0 else if playing then ch.gO else 0)
    ∧ Holds body (o + 15) 2 ch.eP ∧ Holds body (o + 17) 2 ch.eO ∧ Holds body (o + 19) 4 ch.clip
    ∧ ReaderLayout s body (o + 23) (.primary c) ch.primarySrc ch.primaryPos
    ∧ ReaderLayout s body (o + 36) (.overlay c) ch.overlaySrc ch.overlayPos

/-- The IDENTITY record (R186, R196); bits 14 and 15 of the notice mask are 0 (log 20, the model's choice). -/
def IdentityLayout (s : State) (body : List Byte) : Prop :=
  body.length = 28 ∧ Holds body 0 6 s.ident.serial.toNat ∧ Holds body 6 2 s.ident.node.toNat
    ∧ Holds body 8 1 s.ident.groups.length ∧ (∀ n : Fin 4, Holds body (9 + 2 * n.val) 2 (s.ident.groups.getD n.val 0).toNat)
    ∧ Holds body 17 1 (if s.ident.resetCause = .powerOn then 0 else 1) ∧ Holds body 18 2 s.ident.directedResets
    ∧ Holds body 20 1 (if s.ident.mode = .standby then 0 else 1) ∧ Holds body 21 2 s.du.noticeDest.toNat
    ∧ Holds body 23 2 s.du.noticeMask.toNat ∧ Holds body 25 2 s.du.noticeCount.toNat
    ∧ Holds body 27 1 s.du.reportQueue.length

/-- The TIME_STATUS record (R24, R196). -/
def TimeLayout (s : State) (body : List Byte) : Prop :=
  let t := s.tlu
  let held := if t.timeState = .holdover then t.holdoverStart else none
  body.length = 64
    ∧ Holds body 0 1 (bitsValue [t.epoch.isSome, (t.htEst s.lc).isSome, t.lastBeat.isSome, held.isSome])
    ∧ Holds body 1 1 (match t.timeState with
        | .unlocked => 0
        | .acquiring => 1
        | .settling => 2
        | .locked => 3
        | .holdover => 4)
    ∧ Holds body 2 2 t.source.toNat ∧ Holds body 4 4 (t.allowance % 4294967296).toNat
    ∧ Holds body 8 1 (t.gapTimeout / 2457600) ∧ Holds body 9 2 (t.holdoverLimit / 24576000)
    ∧ Holds body 11 1 ((t.epoch.map BitVec.toNat).getD 0) ∧ Holds body 12 1 t.regenEpoch.toNat
    ∧ Holds body 13 2 t.regenSeq.toNat ∧ Holds body 15 1 t.window.length ∧ Holds body 16 1 t.strikes
    ∧ Holds body 17 1 t.lockCount ∧ Holds body 18 6 t.oc.toNat ∧ Holds body 24 6 t.lcc.toNat
    ∧ Holds body 30 2 (t.rate % 65536).toNat ∧ Holds body 32 6 t.lastError.toNat ∧ Holds body 38 6 s.lc.toNat
    ∧ Holds body 44 6 (((t.htEst s.lc).map BitVec.toNat).getD 0)
    ∧ Holds body 50 2 ((t.lastBeat.map (fun b => b.2.toNat)).getD 0)
    ∧ Holds body 52 6 ((t.lastBeat.map (fun b => (s.lc - b.1).toNat)).getD 0)
    ∧ Holds body 58 6 ((held.map (fun start => (s.lc - start).toNat)).getD 0)

/-- The STREAM_STATUS record (R66, R196); of an IDLE stream the index, the state, the attention set, and the optional fields,
all absent (R43): a presence byte of 0 and zero bytes from offset 24 to 51. Its other bytes are free values (log 17). The
unused bits of the flags byte and of the attention set are 0 (log 20, the model's choice). -/
def StreamLayout (s : State) (i : Fin 8) (body : List Byte) : Prop :=
  let st := s.stream i
  let slots (x : SlotState) := (st.ring.filter (fun sl => decide (sl.state = x))).length
  body.length = 60 ∧ Holds body 0 1 i.val ∧ Holds body 59 1 st.attention.toNat
    ∧ Holds body 2 1 (match st.state with
        | .idle => 0
        | .loaded => 1
        | .listening => 2
        | .primed => 3
        | .playing => 4
        | .draining => 5
        | .ended => 6)
    ∧ (st.state = .idle → Holds body 1 1 0 ∧ (body.drop 24).take 28 = List.replicate 28 0)
    ∧ (st.state ≠ .idle →
      Holds body 1 1 (bitsValue [st.anchor.isSome, st.pendingAnchor.isSome, st.breakSeq.isSome, st.secondBreak.isSome,
          st.endSeq.isSome])
      ∧ Holds body 3 2 st.key.toNat ∧ Holds body 5 4 st.fs ∧ Holds body 9 1 st.channels ∧ Holds body 10 2 st.n
      ∧ Holds body 12 1 st.depth ∧ Holds body 13 2 st.quota ∧ Holds body 15 1 st.g
      ∧ Holds body 16 1 (bitsValue [st.localPlay, st.relay]) ∧ Holds body 17 1 st.prio ∧ Holds body 18 2 st.tol
      ∧ Holds body 20 2 (st.horizon / 24576) ∧ Holds body 22 2 (s.pool.charged i)
      ∧ Holds body 24 6 ((st.anchor.map (fun an => an.a.toNat)).getD 0)
      ∧ Holds body 30 2 ((st.anchor.map (fun an => an.b.toNat)).getD 0)
      ∧ Holds body 32 4 ((st.anchor.map (fun an => an.eBase)).getD 0)
      ∧ Holds body 36 2 ((st.anchor.map (fun an => an.base.toNat)).getD 0)
      ∧ Holds body 38 6 ((st.pendingAnchor.map (fun pa => pa.a.toNat)).getD 0)
      ∧ Holds body 44 2 ((st.pendingAnchor.map (fun pa => pa.b.toNat)).getD 0)
      ∧ Holds body 46 2 ((st.breakSeq.map BitVec.toNat).getD 0) ∧ Holds body 48 2 ((st.secondBreak.map BitVec.toNat).getD 0)
      ∧ Holds body 50 2 ((st.endSeq.map BitVec.toNat).getD 0) ∧ Holds body 52 1 st.mismatchRun
      ∧ Holds body 53 1 st.missedRun ∧ Holds body 54 1 (slots .empty) ∧ Holds body 55 1 (slots .filled)
      ∧ Holds body 56 1 (slots .recovering) ∧ Holds body 57 1 (slots .recovered) ∧ Holds body 58 1 (slots .missed))

/-- The STORE_STATUS record (R89, R196). -/
def StoreLayout (s : State) (body : List Byte) : Prop :=
  let sent := match s.relay.tx with
    | some ⟨some e, _, _, _⟩ => e.cells.length
    | _ => 0
  body.length = 43 ∧ Holds body 0 2 s.pool.free ∧ Holds body 2 2 s.pool.leastFree ∧ Holds body 4 2 s.pool.lowWater
    ∧ Holds body 6 1 (if s.pool.free < s.pool.lowWater then 1 else 0)
    ∧ Holds body 7 2 ((List.finRange 8).map (fun i => ((s.stream i).ring.map (fun sl => sl.cells.length)).sum)).sum
    ∧ Holds body 9 2 ((List.finRange 8).map (fun i => ((s.stream i).holder.map (fun hd => hd.cells.length)).getD 0)).sum
    ∧ Holds body 11 2 (sent + ((List.finRange 4).map (fun q =>
        ((s.relay.queue q).entries.map (fun e => e.cells.length)).sum)).sum)
    ∧ Holds body 13 2 ((s.recovery.map (fun op => op.parityCells.length + op.outCells.length)).getD 0)
    ∧ Holds body 15 2 (s.pool.held.filter (fun c => c.owner.isNone)).length
    ∧ Holds body 17 2 (256 - ((List.finRange 8).map (fun i =>
        if (s.stream i).state = .idle then 0 else (s.stream i).depth)).sum)
    ∧ ∀ i : Fin 8, Holds body (19 + 3 * i.val) 1 (if (s.stream i).state = .idle then 0 else (s.stream i).depth)
      ∧ Holds body (20 + 3 * i.val) 2 (s.pool.charged i)

/-- The CHANNEL_STATUS record (R126, R141, R196); the rate is the one in force. -/
def ChannelsLayout (s : State) (body : List Byte) : Prop :=
  body.length = 412 ∧ Holds body 0 4 s.lanes.rate
    ∧ (∀ l : Fin 4, Holds body (4 + 4 * l.val) 4 s.lanes.latency[l])
    ∧ ∀ c : Fin 8, ChannelLayout s body (20 + 49 * c.val) c

/-- The RELAY_STATUS record (R159, R196); the transmission's kind is its frame's kind (log 19). -/
def RelayLayout (s : State) (body : List Byte) : Prop :=
  let r := s.relay
  body.length = 113 ∧ Holds body 0 1 (bitsValue [r.tx.isSome, r.timer.isSome, r.beatPending])
    ∧ Holds body 1 1 (match r.link with
        | .down => 0
        | .qualifying _ => 1
        | .up => 2)
    ∧ (∀ c : Fin 8, Holds body (2 + c.val) 1 r.classMap[c])
    ∧ (∀ n : Fin 16, Holds body (10 + 3 * n.val) 2 ((r.sources[n].map (fun e => e.1.toNat)).getD 0)
        ∧ Holds body (12 + 3 * n.val) 1 ((r.sources[n].map (fun e => e.2)).getD 0))
    ∧ Holds body 58 1 r.wStream ∧ Holds body 59 1 r.wClass ∧ Holds body 60 1 r.wSource ∧ Holds body 61 1 r.count
    ∧ (∀ p : Fin 8, Holds body (62 + p.val) 1 r.map[p].val)
    ∧ (∀ q : Fin 4, Holds body (70 + 7 * q.val) 1 (if (r.queue q).weighted then 1 else 0)
        ∧ Holds body (71 + 7 * q.val) 1 (r.queue q).weight ∧ Holds body (72 + 7 * q.val) 4 (r.queue q).deficit
        ∧ Holds body (76 + 7 * q.val) 1 (r.queue q).entries.length)
    ∧ Holds body 98 1 r.pointer.val
    ∧ Holds body 99 1 (match r.tx with
        | none => 0
        | some ⟨none, _, _, _⟩ => 3
        | some ⟨some e, _, _, _⟩ =>
          match e.kind with
          | .audio => 1
          | .parity => 2
          | .directive => 4)
    ∧ Holds body 100 2 ((r.tx.map (fun t => t.length)).getD 0)
    ∧ Holds body 102 4 ((r.tx.map (fun t => (s.lc - t.start).toNat)).getD 0)
    ∧ Holds body 106 1 (r.margin / 24576) ∧ Holds body 107 2 (r.interval / 24576)
    ∧ Holds body 109 4 ((r.timer.map (fun due => (due - s.lc).toNat)).getD 0)

/-- The COUNTERS record of the part, and of a stream (R168, R196). -/
def PartCountersLayout (s : State) (body : List Byte) : Prop :=
  body.length = 217 ∧ Holds body 0 1 255
    ∧ (∀ (n : Nat) (c : PartCounter), partOrder[n]? = some c → Holds body (1 + 4 * n) 4 (s.partCount c))
    ∧ ∀ c : Fin 8, Holds body (185 + 4 * c.val) 4 (s.channel c).clip

def StreamCountersLayout (s : State) (i : Fin 8) (body : List Byte) : Prop :=
  body.length = 157 ∧ Holds body 0 1 i.val
    ∧ ∀ (n : Nat) (c : StreamCounter), streamOrder[n]? = some c → Holds body (1 + 4 * n) 4 ((s.stream i).count c)

/-- The LINES record (R193, R196): each line's two levels together (log 18), 1 or 0 in the wake, match and LINE bytes (log 41),
and 0 in the unused bits of the mask, compare and capture bytes (log 20). -/
def LinesLayout (s : State) (body : List Byte) : Prop :=
  let l := s.lines
  let level (x : Option Bool) : Nat := (x.map (fun b => if b then 1 else 0)).getD 255
  body.length = 16
    ∧ (∀ n : Fin 4, Holds body (2 * n.val) 1 (level l.last[n]) ∧ Holds body (2 * n.val + 1) 1 (level l.accepted[n]))
    ∧ Holds body 8 1 l.mask.toNat ∧ Holds body 9 1 (if l.detect = .event then 0 else 1) ∧ Holds body 10 1 l.compare.toNat
    ∧ Holds body 11 1 l.forceMask.toNat ∧ Holds body 12 1 (if l.wake then 1 else 0)
    ∧ Holds body 13 1 ((l.capture.map BitVec.toNat).getD 255) ∧ Holds body 14 1 (if l.matchHolds then 1 else 0)
    ∧ Holds body 15 1 (if s.partSet .line then 1 else 0)

/-- The body of the record that a request asks for, laid out as R196's table gives. -/
def RecordLayout (s : State) : Request → List Byte → Prop
  | .identity, body => IdentityLayout s body
  | .time, body => TimeLayout s body
  | .stream i, body => StreamLayout s i body
  | .store, body => StoreLayout s body
  | .channel, body => ChannelsLayout s body
  | .relay, body => RelayLayout s body
  | .counters .part _, body => PartCountersLayout s body
  | .counters (.stream i) _, body => StreamCountersLayout s i body
  | .lines, body => LinesLayout s body

/-! ## Bytes that are no item (R161) -/

/-- The body lengths that R195's table gives for an item code. -/
def bodyLengths : Nat → List Nat
  | 1 => [8, 10, 12, 14, 16]
  | 2 => [4]
  | 3 => [9]
  | 4 => [2]
  | 5 => [20]
  | 6 => [1]
  | 7 => [1]
  | 8 => [1]
  | 9 => [11]
  | 10 => [7]
  | 11 => [2]
  | 12 => [20]
  | 13 => [1]
  | 14 => [8]
  | 15 => [4]
  | 16 => [3]
  | 17 => [17]
  | 18 => [1]
  | 19 => [2]
  | 20 => [5]
  | 21 => [4]
  | 22 => (List.range 85).map (fun k => 3 * (k + 1))
  | 23 => [0]
  | _ => []

/-- The bytes left at an item that is to be read fail a test among 1 to 4 of R161, with this result: the code and length run
over the end, the body does, the code is no item's, or the code does not permit the length. -/
def ItemFails (bytes : List Byte) (r : ResultCode) : Prop :=
  (bytes.length < 2 ∧ r = .badLength)
    ∨ ∃ (code len : Byte) (body : List Byte), bytes = code :: len :: body ∧
      ((body.length < len.toNat ∧ r = .badLength)
        ∨ (len.toNat ≤ body.length ∧ ¬(1 ≤ code.toNat ∧ code.toNat ≤ 23) ∧ r = .badItem)
        ∨ (len.toNat ≤ body.length ∧ 1 ≤ code.toNat ∧ code.toNat ≤ 23 ∧ len.toNat ∉ bodyLengths code.toNat
          ∧ r = .badLength))

/-! ## The end of a directive -/

/-- The end of a directive of which `applied` items took effect, whose outcome is `r`, failing at `failing` when it failed; it
left the state `s`, and no record stands in its reply. The directive is counted as completed or failed, a reply that is
due is placed, and a notice follows what was gathered (R162, R172, R177, R179). -/
def directiveEnd (h : DirHeader) (r : ResultCode) (failing : Option Nat) (applied : Nat) (s : State) : State :=
  finishDirective h ⟨applied, applied, true, [], false, [], r, failing, false⟩ s

/-- The row of an item that was applied with OK and left the state `s`: the directive is counted as taken and the item as
applied, and the directive ends (R42, R162, R179). -/
def itemDone (h : DirHeader) (s : State) : State :=
  directiveEnd h .ok none 1 ((s.bump .directivesTaken).bump .itemsApplied)

/-- The row of an item that was refused in state `s` (R42, R162, R179). -/
def itemRefused (h : DirHeader) (r : ResultCode) (s : State) : State :=
  directiveEnd h r (some 0) 0 (s.bump .directivesTaken)

end Sys2Proof.Machine
end

