-- ==== Sys2Proof/Certificates/Slice0/Obligations.lean ====
section
/-! DEFINITION. The statements about the model, for the provers. Each docstring names the rules of spec/ it formalises. -/

open Sys2Proof Sys2Proof.Machine

/-! ## The queue, the clock and the resets -/

/-- A step runs the command at the front of the queue on the state with the queue's rest. -/
def Obligations.StepRunsFrontCommand : Prop :=
  ∀ (c : Instr) (rest : List Instr) (s : State),
    step { s with pending := c :: rest } = exec c { s with pending := rest }

/-- With no command waiting, a step is one cycle of REFCLK (R1, and log 2, the model's choice): LC advances by one modulo
2^48; at the first cycle after a reset a link that is DOWN with SAT_DET high begins to qualify (R149); at a frame-clock
edge a lane frame begins and, in ACTIVE, an output period opens for the readers whose source is present, each with what its
source names (R110, R134, R136, R137); that it replaces a period still unserved is the model's choice (log 11), and so is the
count of the cycles that the link has been UP (log 24). Nothing else changes. -/
def Obligations.EmptyQueuePassesOneCycle : Prop :=
  ∀ s : State, s.pending = [] →
    ∃ t, step s = .next t
      ∧ t.lc = s.lc + 1
      ∧ t.lanes = (if (s.lc + 1).toNat % periodOf s.lanes.rate = 0 then
          { s.lanes with
            current := (s.lanes.queued.find? (fun f => f.start == s.lc + 1)).getD ⟨s.lc + 1, Vector.replicate 8 0⟩
            queued := s.lanes.queued.filter (fun f => f.start != s.lc + 1)
            period := if s.ident.mode = .active then
                some ⟨s.lc + 1, s.presentReaders, eight, Vector.replicate 8 0, Vector.replicate 8 0⟩
              else s.lanes.period }
        else s.lanes)
      ∧ t.relay = { s.relay with
          upFor := s.relay.upFor + 1
          link := if s.firstCycle = true ∧ s.relay.satDet = true ∧ s.relay.link = .down then
            .qualifying (timeAfter s.lc 24576) else s.relay.link }
      ∧ t = { s with lc := t.lc, firstCycle := false, lanes := t.lanes, relay := t.relay }

/-- What both kinds of reset leave, by the tables of R2, R26, R43, R67, R71, R90, R106, R127, R140, R143, R160, R187 and R188.
The first clause: POWER_ON_RESET puts every field at its value in `State.reset`, with the identity of R183's table and the part
serial fixed. It holds the model's choices: that the presence timer and the first sampling, due at the first reference cycle
(R183, R188), are due at LC 0, and the mark that this cycle is still to come (log 7); that the level of SAT_DET and the commands
waiting are as they were (log 8, 5); and the values of the fields that are the model's own or that the spec
leaves open: no frame handed on (log 4), the cycles the link has been UP (log 24), the origin of the satellite line's cells (log
25), no code gathered (log 28) and the parameters of an IDLE record (log 31). The second clause, of what POWER_ON_RESET leaves
and of what a RESET item with no reply wanted leaves (R169), has the values of the tables alone, but for no frame handed on
(log 4). -/
def Obligations.ResetValues : Prop :=
  (∀ s : State, exec .powerOnReset s = .next
    { State.reset with
      ident := ⟨s.ident.serial, 0, [], .powerOn, 0, some 0, .standby⟩
      relay := { State.reset.relay with satDet := s.relay.satDet }
      pending := s.pending })
  ∧ ∀ s u : State,
    (exec .powerOnReset s = .next u
      ∨ s.ident.node ≠ 0 ∧ ∃ h : DirHeader, h.replyWanted = false ∧ exec (.reset h) s = .next u) →
    u.lc = 0
      ∧ u.tlu = {
          timeState := .unlocked, source := 0, allowance := 0, gapTimeout := 49152000, holdoverLimit := 1474560000
          epoch := none, window := [], windowNewest := none, oc := 0, lcc := 0, rate := 0, mPrev := none, strikes := 0
          lockCount := 0, lastError := 0, lastBeat := none, holdoverStart := none, regenEpoch := 0, regenSeq := 0 }
      ∧ u.port = ⟨.idle, [], []⟩ ∧ u.port.used = 0
      ∧ (∀ i : Fin 8, (u.stream i).state = .idle ∧ (u.stream i).attention = 0 ∧ (u.stream i).anchor = none
          ∧ (u.stream i).pendingAnchor = none ∧ (u.stream i).breakSeq = none ∧ (u.stream i).secondBreak = none
          ∧ (u.stream i).endSeq = none ∧ (u.stream i).holder = none ∧ (u.stream i).virt = ⟨.current, none, none⟩
          ∧ u.pool.charged i = 0 ∧ ∀ c : StreamCounter, (u.stream i).count c = 0)
      ∧ u.pool.free = 1024 ∧ u.pool.leastFree = 1024 ∧ u.pool.lowWater = 64 ∧ u.slotsFree = 256
      ∧ u.requests = [] ∧ u.recovery = none
      ∧ (∀ c : Fin 8, u.channel c
          = ⟨none, none, 0, 0, 16384, false, false, 0, 0, 0, ⟨.current, none, none⟩, ⟨.current, none, none⟩⟩)
      ∧ u.lanes.rate = 48000 ∧ u.lanes.rateChange = none ∧ u.lanes.latency = #v[0, 0, 0, 0] ∧ u.lanes.queued = []
      ∧ u.lanes.current.samples = #v[0, 0, 0, 0, 0, 0, 0, 0] ∧ u.lanes.period = none
      ∧ u.relay.classMap = #v[0, 1, 2, 3, 4, 5, 6, 7] ∧ (∀ n : Fin 16, u.relay.sources[n] = none)
      ∧ u.relay.wStream = 0 ∧ u.relay.wClass = 1 ∧ u.relay.wSource = 0
      ∧ u.relay.count = 4 ∧ u.relay.map = #v[0, 0, 1, 1, 2, 2, 3, 3] ∧ u.relay.pointer = 0
      ∧ (∀ q : Fin 4, u.relay.queue q = ⟨[], false, 1, 0⟩)
      ∧ u.relay.tx = none ∧ u.relay.margin = 49152 ∧ u.relay.interval = 6144000 ∧ u.relay.timer = none
      ∧ u.relay.beatPending = false ∧ u.relay.link = .down
      ∧ u.du.reportQueue = [] ∧ u.du.attention = 0 ∧ u.du.noticeDest = 0xFFFF ∧ u.du.noticeMask = 0x3FFF
      ∧ u.du.noticeCount = 0 ∧ u.ident.mode = .standby
      ∧ (∀ n : Fin 4, u.lines.last[n] = none ∧ u.lines.accepted[n] = none)
      ∧ u.lines.mask = 0 ∧ u.lines.detect = .event ∧ u.lines.compare = 0 ∧ u.lines.forceMask = 0
      ∧ u.lines.wake = false ∧ u.lines.capture = none ∧ u.lines.matchHolds = false
      ∧ (∀ c : PartCounter, u.partCount c = 0)

/-- The rules over the whole part hold in the state after reset: those of R13, R19, R26, R43, R45, R67, R70, R73, R74, R90,
R127, R144, R155, R173, R185 and R187. NoneGathered rests on log 28 and the quota of 0 of an IDLE record in ChargesBounded on
log 31, the model's choices. -/
def Obligations.ResetMeetsTheRules : Prop :=
  IntakeBounded State.reset ∧ ReportBounded State.reset ∧ RelayBounded State.reset ∧ NoneGathered State.reset
    ∧ RateBounded State.reset ∧ KeysDistinct State.reset ∧ SlotsBounded State.reset ∧ TimeGuardsStreams State.reset
    ∧ GainsBounded State.reset ∧ PresenceTimed State.reset ∧ RegenTimed State.reset ∧ BreaksOrdered State.reset
    ∧ RunsBounded State.reset ∧ RingsFormed State.reset ∧ RingsAnchored State.reset ∧ StandbyQuiet State.reset
    ∧ RequestsOnce State.reset ∧ PoolFormed State.reset ∧ ChargesBounded State.reset

/-! ## The Packet Port and Dispatch -/

/-- SELECT_ASSERTION, WRITE_SELECT, READ_SELECT, BAD_OPENING, EARLY_DEASSERTION, READ_SELECT_END, and WRITE_SELECT_END of a
refused select (R25, R27, R38, R39, R40): the arrival instant captured; the opening byte decoded, 0xA5 as WRITE, 0x5A as READ
and any other as neither, counted; an early deassertion counted nowhere. A WRITE with a FREE buffer claims it and keeps the
arrival instant; with all four WAITING the frame is refused INTAKE_FULL, counted in FRAMES_IN and REFUSED_INTAKE_FULL, and
INTAKE_DROP is set, which touches the select, the counters and the Directive Unit alone; the end of that select discards its
bytes and counts nothing more. A READ fixes the head of the report queue; on PP_DOUT stand its count, its bytes, then zeros. A
read that shifted out its two count bytes and the whole frame removes the head and counts FRAMES_OUT, and one that ended
earlier, or that found the queue empty, removes and counts nothing. PP_RDY is high while the queue holds a frame. Nothing else
changes. That a void select ends with the next assertion is the model's reading (log 32). -/
def Obligations.SelectResults : Prop :=
  ∀ s : State,
    ((s.port.select = .idle ∨ s.port.select = .void) →
      exec .selectAssertion s = .next { s with port := { s.port with select := .opening s.lc } })
    ∧ (exec .writeSelect s = .next (s.takeOpening 0xA5) ∧ exec .readSelect s = .next (s.takeOpening 0x5A)
      ∧ ∀ b : Byte, exec (.badOpening b) s = .next (s.takeOpening b))
    ∧ (∀ a : Time, s.port.select = .opening a →
      exec .readSelect s = .next { s with port := { s.port with select := .read s.du.reportQueue.head? } }
      ∧ exec .earlyDeassertion s = .next { s with port := { s.port with select := .idle } }
      ∧ (∀ b : Byte, b ≠ 0xA5 → b ≠ 0x5A →
        exec (.badOpening b) s = .next (({ s with port := { s.port with select := .void } }).bump .badOpenings))
      ∧ (s.du.gathered = false →
        if s.port.intake.length < 4 then
          exec .writeSelect s = .next { s with port := { s.port with select := .write a } }
        else
          ∃ t, exec .writeSelect s = .next t
            ∧ t.port = { s.port with select := .refused }
            ∧ t.partCount .framesIn = min (s.partCount .framesIn + 1) (max (s.partCount .framesIn) 4294967295)
            ∧ t.partCount .refusedIntakeFull
                = min (s.partCount .refusedIntakeFull + 1) (max (s.partCount .refusedIntakeFull) 4294967295)
            ∧ t.partSet .intakeDrop = true
            ∧ t = { s with port := t.port, counters := t.counters, du := t.du }))
    ∧ (s.port.select = .refused → ∀ (bytes : List Byte) (ragged : Bool),
      exec (.writeSelectEnd bytes ragged) s = .next { s with port := { s.port with select := .idle } })
    ∧ (∀ shifted : Nat,
      (∀ f : List Byte, s.port.select = .read (some f) →
        exec (.readSelectEnd shifted) s = .next (
          if 2 + f.length ≤ shifted then
            ({ s with port := { s.port with select := .idle }
                      du := { s.du with reportQueue := s.du.reportQueue.tail } }).bump .framesOut
          else { s with port := { s.port with select := .idle } }))
      ∧ (s.port.select = .read none →
        exec (.readSelectEnd shifted) s = .next { s with port := { s.port with select := .idle } }))
    ∧ (s.ppRdy = true ↔ s.du.reportQueue ≠ [])
    ∧ ∀ n : Nat,
      (∀ f : List Byte, s.port.select = .read (some f) → s.ppDout n =
        if n = 0 then BitVec.ofNat 8 f.length else if n = 1 then BitVec.ofNat 8 (f.length / 256) else byteAt f (n - 2))
      ∧ (s.port.select = .read none ∨ s.port.select = .void → s.ppDout n = 0)

/-- WRITE_SELECT_END (R29, R30): size, CRC, payload length, then kind, version and continuity, in that order; each refusal
counted once, a frame that passes queued with its arrival instant. Nothing else changes. -/
def Obligations.WriteSelectEndResult : Prop :=
  ∀ (s : State) (a : Time) (bytes : List Byte) (ragged : Bool), s.port.select = .write a →
    let s1 := ({ s with port := { s.port with select := .idle } }).bump .framesIn
    let kind := (byteAt bytes 0).toNat % 16
    exec (.writeSelectEnd bytes ragged) s = .next (
      if ragged = true ∨ bytes.length < 20 ∨ 1460 < bytes.length then s1.bump .refusedLength
      else if bytes.drop (bytes.length - 4) ≠ leBytes 4 (crc32 (bytes.take (bytes.length - 4))).toNat then
        s1.bump .refusedCheck
      else if field bytes 14 2 ≠ bytes.length - 20 then s1.bump .refusedLength
      else if ¬(1 ≤ kind ∧ kind ≤ 6) ∨ (byteAt bytes 0).toNat / 16 ≠ 1
          ∨ (kind = 1 ∧ ¬(byteAt bytes 1).toNat / 8 % 4 ≤ 2) then s1.bump .refusedBadHeader
      else ({ s1 with port := { s1.port with intake := s1.port.intake ++ [InFrame.mk bytes a] } }).bump .framesQueued)

/-- DISPATCH (R31, R32, R35 to R37, R42). AUDIO, PARITY and BEAT go to their one consumer; a REPORT or NOTICE is dropped, counted
in WRONG_DIRECTION, and its buffer freed. A DIRECTIVE is taken by the Directive Unit, copied for relay, both or neither by its
destination, the node ID and the room groups, the Relay Unit first, and counted once, at this event (the model's reading, log
38). The report queue and the relay queues are untouched. -/
def Obligations.DispatchResult : Prop :=
  ∀ (s : State) (f : InFrame) (rest : List InFrame), s.port.intake = f :: rest → s.port.handed = [] →
    (kindCode f.bytes = 1 → exec .dispatch s = .next { s with port := { s.port with handed := [.admission] } })
    ∧ (kindCode f.bytes = 2 → exec .dispatch s = .next { s with port := { s.port with handed := [.parity] } })
    ∧ (kindCode f.bytes = 3 → exec .dispatch s = .next { s with port := { s.port with handed := [.timeLock] } })
    ∧ (kindCode f.bytes = 5 ∨ kindCode f.bytes = 6 →
        exec .dispatch s = .next (({ s with port := { s.port with intake := rest } }).bump .wrongDirection))
    ∧ (kindCode f.bytes = 4 →
      let dest := frameKey f.bytes
      let taken := dest ≠ 0 ∧
        (if s.ident.node = 0 then dest = 0xFFFF else dest = s.ident.node ∨ dest ∈ s.ident.groups ∨ dest = 0xFFFF)
      let copied := dest ≠ 0 ∧ ¬(s.ident.node ≠ 0 ∧ dest = s.ident.node)
      (taken → copied → exec .dispatch s
          = .next (({ s with port := { s.port with handed := [.relay, .directives] } }).bump .directivesTaken))
      ∧ (taken → ¬copied → exec .dispatch s
          = .next (({ s with port := { s.port with handed := [.directives] } }).bump .directivesTaken))
      ∧ (¬taken → copied → exec .dispatch s
          = .next (({ s with port := { s.port with handed := [.relay] } }).bump .directivesPassed))
      ∧ (¬taken → ¬copied → exec .dispatch s
          = .next (({ s with port := { s.port with intake := rest } }).bump .directivesUnaddressed)))

/-! ## House time -/

/-- TAKING_A_BEAT, the screening and a used beat that closes no window (R6, R8, R9): a BEAT with a payload, and one from another
node or taken with no time source, is ignored and counted. A used beat starts ACQUIRING from UNLOCKED, joins the window of
ACQUIRING, SETTLING or LOCKED, and ends HOLDOVER with a fresh window, the mapping kept. -/
def Obligations.BeatScreeningAndWindow : Prop :=
  ∀ (s : State) (f : InFrame) (rest : List InFrame), s.port.intake = f :: rest → s.port.handed = [.timeLock] →
    s.du.gathered = false →
    (framePayloadLength f.bytes ≠ 0 → exec .takingABeat s = .next ((headTaken s).bump .beatsMalformed))
    ∧ (framePayloadLength f.bytes = 0 → (s.tlu.source = 0 ∨ frameSource f.bytes ≠ s.tlu.source) →
        exec .takingABeat s = .next ((headTaken s).bump .beatsForeign))
    ∧ (framePayloadLength f.bytes = 0 → s.tlu.source ≠ 0 → frameSource f.bytes = s.tlu.source →
    let d : Time := frameStamp f.bytes - f.arrival + BitVec.ofInt 48 s.tlu.allowance
    let used : Tlu := { s.tlu with
      lastBeat := some (f.arrival, frameSeq f.bytes), epoch := some (frameEpoch f.bytes), windowNewest := some f.arrival }
    let answer (t : Tlu) : Host.Outcome State Fault Refusal := .next (({ headTaken s with tlu := t }).bump .beatsUsed)
    (s.tlu.timeState = .unlocked → s.tlu.epoch = none →
      exec .takingABeat s = answer { used with timeState := .acquiring, window := [d] })
    ∧ (s.tlu.timeState = .acquiring ∨ s.tlu.timeState = .settling ∨ s.tlu.timeState = .locked →
        s.tlu.epoch = some (frameEpoch f.bytes) → s.tlu.window.length < 7 →
      exec .takingABeat s = answer { used with window := s.tlu.window ++ [d] })
    ∧ (s.tlu.timeState = .holdover → s.tlu.epoch = some (frameEpoch f.bytes) →
      exec .takingABeat s = answer { used with
        timeState := .settling, window := [d], holdoverStart := none, strikes := 0, lockCount := 0 }))

/-- TAKING_A_BEAT, a restart by epoch (R7): counted, every anchored stream flushed, TIME_RESTART set, the window holding the
beat's raw offset alone, and the unit ACQUIRING with the new epoch. That the holdover start stays is the model's reading
(log 22). -/
def Obligations.EpochRestart : Prop :=
  ∀ (s : State) (f : InFrame) (rest : List InFrame) (e : BitVec 8), s.port.intake = f :: rest →
    s.port.handed = [.timeLock] → framePayloadLength f.bytes = 0 → s.tlu.source ≠ 0 →
    frameSource f.bytes = s.tlu.source → s.tlu.epoch = some e → e ≠ frameEpoch f.bytes →
    ∃ t, exec .takingABeat s = .next t
      ∧ t.tlu = { s.tlu with
          timeState := .acquiring
          window := [frameStamp f.bytes - f.arrival + BitVec.ofInt 48 s.tlu.allowance]
          windowNewest := some f.arrival
          lastBeat := some (f.arrival, frameSeq f.bytes)
          epoch := some (frameEpoch f.bytes)
          mPrev := none, strikes := 0, lockCount := 0 }
      ∧ t.partSet .timeRestart = true
      ∧ t.partCount .beatsUsed = satInc (s.partCount .beatsUsed)
      ∧ t.partCount .epochRestarts = satInc (s.partCount .epochRestarts)
      ∧ t.relay.beatPending = false ∧ t.relay.timer = none
      ∧ (∀ i : Fin 8, (s.stream i).running = true →
          (t.stream i).state = .listening ∧ Flushed (t.stream i) ∧ (t.stream i).codeSet .flushed = true)
      ∧ (∀ i : Fin 8, (s.stream i).running = false → t.stream i = s.stream i)
      ∧ t.port = (headTaken s).port ∧ t.lc = s.lc ∧ t.ident = s.ident ∧ t.lines = s.lines ∧ t.lanes = s.lanes
      ∧ t.pending = s.pending

/-- TAKING_A_BEAT, the close of an ACQUIRING window (R10, R21): the least of the eight offsets becomes O_c and the previous
minimum, R becomes 0, the unit is SETTLING, the regeneration epoch advances, and regeneration starts when the link is UP
and the interval is not 0 (R155). With the link not UP or the interval 0 no beat is pending, the timer is absent, and the Relay
Unit is otherwise as it was: as it was, then, in every state in which neither stood before, as R155 has it in ACQUIRING. -/
def Obligations.AcquiringClose : Prop :=
  ∀ (s : State) (f : InFrame) (rest : List InFrame), s.port.intake = f :: rest → s.port.handed = [.timeLock] →
    s.du.gathered = false → framePayloadLength f.bytes = 0 → s.tlu.source ≠ 0 → frameSource f.bytes = s.tlu.source →
    s.tlu.epoch = some (frameEpoch f.bytes) → s.tlu.timeState = .acquiring → s.tlu.window.length = 7 →
    let d : Time := frameStamp f.bytes - f.arrival + BitVec.ofInt 48 s.tlu.allowance
    ∃ t, exec .takingABeat s = .next t
      ∧ ∃ m ∈ s.tlu.window ++ [d], (∀ x ∈ s.tlu.window ++ [d], m.toInt ≤ x.toInt)
        ∧ t.tlu = { s.tlu with
            timeState := .settling, window := [], windowNewest := none, oc := m, lcc := f.arrival, rate := 0
            mPrev := some m, strikes := 0, lockCount := 0, regenEpoch := s.tlu.regenEpoch + 1
            lastBeat := some (f.arrival, frameSeq f.bytes) }
        ∧ t.counters = (((headTaken s).bump .beatsUsed).bump .windowCloses).counters
        ∧ (s.relay.link = .up → s.relay.interval ≠ 0 → s.relay.timer = none →
            t.relay = { s.relay with beatPending := true, timer := some (timeAfter s.lc s.relay.interval) })
        ∧ (s.relay.link ≠ .up ∨ s.relay.interval = 0 → t.relay = { s.relay with beatPending := false, timer := none })
        ∧ t = { headTaken s with tlu := t.tlu, counters := t.counters, relay := t.relay }

/-- TAKING_A_BEAT, a close in SETTLING or LOCKED (R10 to R15). With |e| within 24,576 the rate moves a quarter of the way to
the measured rate, O_c is predicted and slewed by at most 64, and the lock is judged; a first error beyond it is a strike
that leaves the mapping as it was. -/
def Obligations.ServoClose : Prop :=
  ∀ (s : State) (f : InFrame) (rest : List InFrame), s.port.intake = f :: rest → s.port.handed = [.timeLock] →
    s.du.gathered = false → framePayloadLength f.bytes = 0 → s.tlu.source ≠ 0 → frameSource f.bytes = s.tlu.source →
    s.tlu.epoch = some (frameEpoch f.bytes) → s.tlu.timeState = .settling ∨ s.tlu.timeState = .locked →
    s.tlu.window.length = 7 →
    let d : Time := frameStamp f.bytes - f.arrival + BitVec.ofInt 48 s.tlu.allowance
    let elapsed : Nat := (f.arrival - s.tlu.lcc).toNat
    let pred : Time := s.tlu.oc + BitVec.ofInt 48 ((s.tlu.rate * elapsed).tdiv 16777216)
    let s1 := (((headTaken s).bump .beatsUsed).bump .windowCloses)
    let closed : Tlu := { s.tlu with
      window := [], windowNewest := none, lastBeat := some (f.arrival, frameSeq f.bytes) }
    ∃ m ∈ s.tlu.window ++ [d], (∀ x ∈ s.tlu.window ++ [d], m.toInt ≤ x.toInt) ∧
      let e : Int := (m - pred).toInt
      (e.natAbs ≤ 24576 → exec .takingABeat s = .next { s1 with tlu := { closed with
          strikes := 0
          lastError := m - pred
          lcc := f.arrival
          mPrev := some m
          oc := pred + BitVec.ofInt 48 (max (-64) (min 64 (e.tdiv 8)))
          rate := (match s.tlu.mPrev with
            | none => s.tlu.rate
            | some mp =>
              if 1048576 ≤ elapsed then
                let rho := max (-4096) (min 4096 (roundHalfAway ((m - mp).toInt * 16777216) elapsed))
                max (-4096) (min 4096 (s.tlu.rate + (rho - s.tlu.rate).tdiv 4))
              else s.tlu.rate)
          timeState :=
            if s.tlu.timeState = .settling then
              (if e.natAbs ≤ 246 ∧ s.tlu.lockCount + 1 = 2 then .locked else .settling)
            else (if e.natAbs ≤ 1229 then .locked else .settling)
          lockCount :=
            if s.tlu.timeState = .settling then (if e.natAbs ≤ 246 then s.tlu.lockCount + 1 else 0)
            else (if e.natAbs ≤ 1229 then s.tlu.lockCount else 0) } })
      ∧ (24576 < e.natAbs → s.tlu.strikes = 0 →
          exec .takingABeat s
            = .next (({ s1 with tlu := { closed with strikes := 1, lastError := m - pred } }).bump .stepStrikes))

/-- TAKING_A_BEAT, a second consecutive strike (R12, R19): the mapping steps to the measurement with R kept, the unit is
SETTLING, the step is counted, the regeneration epoch advances, TIME_STEPPED is set, and every anchored stream is flushed. -/
def Obligations.SecondStrikeSteps : Prop :=
  ∀ (s : State) (f : InFrame) (rest : List InFrame), s.port.intake = f :: rest → s.port.handed = [.timeLock] →
    framePayloadLength f.bytes = 0 → s.tlu.source ≠ 0 → frameSource f.bytes = s.tlu.source →
    s.tlu.epoch = some (frameEpoch f.bytes) → s.tlu.timeState = .settling ∨ s.tlu.timeState = .locked →
    s.tlu.window.length = 7 → s.tlu.strikes ≠ 0 →
    let d : Time := frameStamp f.bytes - f.arrival + BitVec.ofInt 48 s.tlu.allowance
    let pred : Time := s.tlu.oc
      + BitVec.ofInt 48 ((s.tlu.rate * ((f.arrival - s.tlu.lcc).toNat : Int)).tdiv 16777216)
    ∃ m ∈ s.tlu.window ++ [d], (∀ x ∈ s.tlu.window ++ [d], m.toInt ≤ x.toInt) ∧
      (24576 < (m - pred).toInt.natAbs →
        ∃ t, exec .takingABeat s = .next t
          ∧ t.tlu = { s.tlu with
              window := [], windowNewest := none, lastBeat := some (f.arrival, frameSeq f.bytes)
              oc := m, lcc := f.arrival, mPrev := some m, strikes := 0, lockCount := 0, timeState := .settling
              lastError := m - pred, regenEpoch := s.tlu.regenEpoch + 1 }
          ∧ t.partSet .timeStepped = true ∧ t.partCount .steps = satInc (s.partCount .steps)
          ∧ (∀ i : Fin 8, (s.stream i).running = true →
              (t.stream i).state = .listening ∧ Flushed (t.stream i) ∧ (t.stream i).codeSet .flushed = true)
          ∧ (∀ i : Fin 8, (s.stream i).running = false → t.stream i = s.stream i)
          ∧ t.port = (headTaken s).port ∧ t.relay = s.relay ∧ t.lc = s.lc ∧ t.ident = s.ident ∧ t.lanes = s.lanes
          ∧ t.lines = s.lines ∧ t.pending = s.pending)

/-- GAP_EXPIRY (R17) once more ticks than the gap timeout have passed since the last used beat, and HOLDOVER_EXPIRY (R18, R19),
at or after their instants (log 26). A gap: ACQUIRING gives up to UNLOCKED; SETTLING and LOCKED enter HOLDOVER when the limit
is above 0, and with a limit of 0 lose house time at once, with the effects of R18 and no HOLDOVER counted; UNLOCKED and
HOLDOVER are not touched. The end of HOLDOVER: the unit is UNLOCKED, its history gone, the loss counted, TIME_LOST set, every
anchored stream flushed and no other touched, and regeneration over (R155). -/
def Obligations.TimeExpiries : Prop :=
  (∀ (s : State) (a : Time) (q : Seq), s.tlu.lastBeat = some (a, q) → s.tlu.gapTimeout < (s.lc - a).toNat →
    s.du.gathered = false →
    (s.tlu.timeState = .acquiring → exec .gapExpiry s = .next { s with tlu := { s.tlu with
        timeState := .unlocked, window := [], windowNewest := none, epoch := none, lastBeat := none } })
    ∧ (s.tlu.timeState = .settling ∨ s.tlu.timeState = .locked → s.tlu.holdoverLimit ≠ 0 →
        exec .gapExpiry s
          = .next (({ s with tlu := { s.tlu with timeState := .holdover, holdoverStart := some s.lc } }).bump .holdovers))
    ∧ (s.tlu.timeState = .settling ∨ s.tlu.timeState = .locked → s.tlu.holdoverLimit = 0 →
        ∃ t, exec .gapExpiry s = .next t
          ∧ t.tlu = { s.tlu with
              timeState := .unlocked, window := [], windowNewest := none, mPrev := none, epoch := none, lastBeat := none
              holdoverStart := none, strikes := 0, lockCount := 0 }
          ∧ t.partCount .timeLosses = satInc (s.partCount .timeLosses)
          ∧ t.partCount .holdovers = s.partCount .holdovers
          ∧ t.partSet .timeLost = true
          ∧ t.relay = { s.relay with beatPending := false, timer := none }
          ∧ (∀ i : Fin 8, (s.stream i).running = true →
              (t.stream i).state = .listening ∧ Flushed (t.stream i) ∧ (t.stream i).codeSet .flushed = true)
          ∧ (∀ i : Fin 8, (s.stream i).running = false → t.stream i = s.stream i)
          ∧ t.port = s.port ∧ t.lc = s.lc ∧ t.ident = s.ident ∧ t.lines = s.lines ∧ t.lanes = s.lanes
          ∧ t.pending = s.pending)
    ∧ (s.tlu.timeState = .unlocked ∨ s.tlu.timeState = .holdover → exec .gapExpiry s = .next s))
  ∧ ∀ (s : State) (start : Time), s.tlu.timeState = .holdover → s.tlu.holdoverStart = some start →
    s.tlu.holdoverLimit ≤ (s.lc - start).toNat →
    ∃ t, exec .holdoverExpiry s = .next t
      ∧ t.tlu = { s.tlu with
          timeState := .unlocked, window := [], windowNewest := none, mPrev := none, epoch := none, lastBeat := none
          holdoverStart := none, strikes := 0, lockCount := 0 }
      ∧ t.partCount .timeLosses = min (s.partCount .timeLosses + 1) (max (s.partCount .timeLosses) 4294967295)
      ∧ t.partSet .timeLost = true
      ∧ t.relay = { s.relay with beatPending := false, timer := none }
      ∧ (∀ i : Fin 8, (s.stream i).running = true →
          (t.stream i).state = .listening ∧ Flushed (t.stream i) ∧ (t.stream i).codeSet .flushed = true)
      ∧ (∀ i : Fin 8, (s.stream i).running = false → t.stream i = s.stream i)
      ∧ t.port = s.port ∧ t.lc = s.lc ∧ t.ident = s.ident ∧ t.lines = s.lines ∧ t.lanes = s.lanes
      ∧ t.pending = s.pending

/-! ## Admission, parity and recovery -/

/-- AUDIO_ADMISSION, the refusals, in the order of R75 and the first that applies (R51, R75 to R82), and the relay-only path.
A key of no stream outside IDLE is refused UNKNOWN_KEY, a frame of a LOADED stream CLOSED, of an ENDED one AFTER_END, and of a
LISTENING local-play stream outside LOCKED NOT_LOCKED. On the anchored path: the size; the window (before the base, beyond the
depth, after the end, after the second break, between the break and the pending anchor); the slot (good, or already MISSED);
the stamp, against the anchor of the frame's segment, which a frame that may set the pending anchor is not held to, and which
counts the mismatch run up to 3; the time; the store. On the unanchored path the size, the time and the store; on the
relay-only path the size and the store. A refused frame leaves everything but its counter, the run and its buffer as it was.
A frame that passes on the relay-only path is ACCEPTED and its copy offered (R84, R148): while the link is not UP declined and
counted; with 32 entries in its queue dropped and counted, with RELAY_DROP set, and no cells taken either way; otherwise an
entry of k new cells, charged to the stream, that hold its words. -/
def Obligations.AudioRefusalsAndRelayOnly : Prop :=
  ∀ (s : State) (f : InFrame) (rest : List InFrame), s.port.intake = f :: rest → s.port.handed = [.admission] →
    s.du.gathered = false →
    ((∀ i : Fin 8, (s.stream i).state = .idle ∨ (s.stream i).key ≠ frameKey f.bytes) →
      exec .audioAdmission s = .next ((headTaken s).bump .unknownKey))
    ∧ ∀ i : Fin 8, Keyed s f i →
      let st := s.stream i
      let q := frameSeq f.bytes
      let stamp := frameStamp f.bytes
      let refused (c : StreamCounter) : Prop := exec .audioAdmission s = .next ((headTaken s).bumpStream i c)
      let size : Option StreamCounter :=
        if framePayloadLength f.bytes = st.n * st.channels * 3 then none else some .sizeMismatch
      let store : Option StreamCounter :=
        if st.quota < s.pool.charged i + st.k then some .quota else if s.pool.free < st.k then some .storeFull else none
      (st.state = .loaded → refused .closed)
      ∧ (st.state = .ended → refused .afterEnd)
      ∧ (st.state = .listening → st.localPlay = true → s.tlu.timeState ≠ .locked → refused .notLocked)
      ∧ (st.state = .listening → st.localPlay = false →
          (∀ c, size.or store = some c → refused c)
          ∧ (size.or store = none →
            CopyOffered i .audio f ((headTaken s).bumpStream i .accepted) (exec .audioAdmission s)))
      ∧ ∀ h : Time, s.tlu.htEst f.arrival = some h →
        let time : Option StreamCounter :=
          if signed48 (stamp - BitVec.ofNat 48 (s.latencyMax i)) h ≤ 0 then some .late
          else if (st.horizon : Int) < signed48 stamp h then some .early
          else none
        (st.state = .listening ∧ st.localPlay = true ∧ s.tlu.timeState = .locked ∨ st.running = true ∧ st.anchor = none →
          ∀ c, size.or (time.or store) = some c → refused c)
        ∧ ∀ an : Anchor, st.running = true → st.anchor = some an →
          let pending := Passed q st.breakSeq
          let slot := st.slotOf an q
          let window : Option StreamCounter :=
            if Follows an.base q then some .late
            else if st.depth ≤ (q - an.base).toNat then some .ahead
            else if Passed q st.endSeq then some .afterEnd
            else if Passed q st.secondBreak then some .segmentLimit
            else if pending && st.pendingAnchor.any (fun pa => decide (Follows pa.b q)) then some .late
            else none
          let taken : Option StreamCounter :=
            if slot.state = .filled ∨ slot.state = .recovered then some .duplicate
            else if slot.state = .missed then some .late
            else none
          let expected : Option Time :=
            if pending then st.pendingAnchor.map (fun pa => stampOf st pa.a (q - pa.b).toNat)
            else some (stampOf st an.a (an.eBase + (q - an.base).toNat))
          let off : Bool := expected.any (fun x => decide (st.tol < (signed48 stamp x).natAbs))
          (∀ c, size.or (window.or taken) = some c → refused c)
          ∧ (size.or (window.or taken) = none →
            (off = true → st.mismatchRun < 3 → exec .audioAdmission s = .next (({ headTaken s with
              streams := s.streams.set i { st with mismatchRun := st.mismatchRun + 1 } }).bumpStream i .stampMismatch))
            ∧ (off = false → ∀ c, time.or store = some c → refused c))

/-- AUDIO_ADMISSION of the first accepted frame of a local-play stream that is LISTENING in LOCKED (R50, R81 to R83): the
stream is PRIMED and anchored on the frame's stamp and sequence, the frame's words stand in k cells of the slot at s mod
depth, LAST sets the end and BREAK the break. No other stream is touched. -/
def Obligations.FirstFrameAnchors : Prop :=
  ∀ (s : State) (f : InFrame) (rest : List InFrame) (i : Fin 8) (h : Time), s.port.intake = f :: rest →
    s.port.handed = [.admission] → PoolFormed s →
    (s.stream i).state = .listening → (s.stream i).key = frameKey f.bytes →
    (∀ j : Fin 8, j ≠ i → (s.stream j).state = .idle ∨ (s.stream j).key ≠ frameKey f.bytes) →
    (s.stream i).localPlay = true → s.tlu.timeState = .locked → Flushed (s.stream i) →
    (s.stream i).ring.length = (s.stream i).depth → 0 < (s.stream i).depth →
    framePayloadLength f.bytes = (s.stream i).n * (s.stream i).channels * 3 →
    f.bytes.length = framePayloadLength f.bytes + 20 →
    s.tlu.htEst f.arrival = some h →
    0 < signed48 (frameStamp f.bytes - BitVec.ofNat 48 (s.latencyMax i)) h →
    signed48 (frameStamp f.bytes) h ≤ (s.stream i).horizon →
    s.pool.charged i + (s.stream i).k ≤ (s.stream i).quota → (s.stream i).k ≤ s.pool.free →
    let q := frameSeq f.bytes
    let p := q.toNat % (s.stream i).depth
    ∃ t cells, exec .audioAdmission s = .next t
      ∧ cells.length = (s.stream i).k
      ∧ t.stream i = { s.stream i with
          state := .primed
          anchor := some ⟨frameStamp f.bytes, q, 0, q, p⟩
          ring := (s.stream i).ring.set p ⟨.filled, q, .current, 0, cells⟩
          endSeq := if frameContinuity f.bytes = 1 then some q else none
          breakSeq := if frameContinuity f.bytes = 2 then some q else none
          counters := ((s.stream i).counters.set StreamCounter.anchors.idx (satInc ((s.stream i).count .anchors))).set
            StreamCounter.accepted.idx (satInc ((s.stream i).count .accepted)) }
      ∧ (∀ j : Nat, j < (s.stream i).n * (s.stream i).channels →
          t.pool.wordAt cells j = (payloadWords (framePayload f.bytes)).getD j 0)
      ∧ AdmissionFrame i s t ∧ t.port = (headTaken s).port ∧ t.channels = s.channels ∧ t.requests = s.requests
      ∧ t.recovery = s.recovery

/-- AUDIO_ADMISSION of a frame that passes the tests, of a stream that is PRIMED, PLAYING or DRAINING (R49, R53, R56 to R58, R80
to R83, R85, R96, R97). It stands FILLED in its ring position, in its segment and at its extended index, its words in k new
cells charged to the stream; the mismatch run is 0 and ACCEPTED counts. A frame of the pending segment sets a pending anchor
that is absent. LAST moves the end and makes PLAYING DRAINING, unless an end no later stands; BREAK, when no frame held or being
rebuilt follows it, sets the break or, after a break, the second break, and is counted as ignored otherwise (a BREAK honoured
before the break is log 23, and left out). A stream that awaits an anchor takes it from the frame and keeps its state. A parity
held is tested on what this leaves when the frame is of its group, or when it is a BREAK that is honoured: it expires, is spent,
is requested or waits, and its cells are released when it leaves the holder; otherwise the holder and the requests are as they
were. The copy for relay shares the frame's cells, which then have two holders; declined or dropped, it is counted (R148).
STORE_LOW and RELAY_DROP are the only codes raised. -/
def Obligations.AcceptedFrameTakesItsSlot : Prop :=
  ∀ (s : State) (f : InFrame) (rest : List InFrame) (i : Fin 8) (h : Time), s.port.intake = f :: rest →
    s.port.handed = [.admission] → PoolFormed s → Keyed s f i → (s.stream i).running = true →
    (s.stream i).ring.length = (s.stream i).depth → 0 < (s.stream i).depth →
    (∀ hd, (s.stream i).holder = some hd → ∀ id ∈ hd.cells, ∃ c ∈ s.pool.held, c.id = id) →
    framePayloadLength f.bytes = (s.stream i).n * (s.stream i).channels * 3 →
    f.bytes.length = framePayloadLength f.bytes + 20 → s.tlu.htEst f.arrival = some h →
    0 < signed48 (frameStamp f.bytes - BitVec.ofNat 48 (s.latencyMax i)) h →
    signed48 (frameStamp f.bytes) h ≤ (s.stream i).horizon →
    s.pool.charged i + (s.stream i).k ≤ (s.stream i).quota → (s.stream i).k ≤ s.pool.free →
    let st := s.stream i
    let q := frameSeq f.bytes
    let stamp := frameStamp f.bytes
    let pending := Passed q st.breakSeq
    let target := s.relay.queueFor (some st.prio) (frameClass f.bytes) (frameSource f.bytes)
    let copies := st.relay = true ∧ s.relay.link = .up ∧ (s.relay.queue target).entries.length < 32
    let drops := st.relay = true ∧ s.relay.link = .up ∧ 32 ≤ (s.relay.queue target).entries.length
    let leaves (x : Stream) (an : Anchor) (place : Nat) (seg : Segment) (idx : Nat) : Prop :=
      ∃ (u : State) (cells : List Nat) (z : Stream), exec .audioAdmission s = .next u.endEvent
        ∧ cells.length = st.k
        ∧ (let y : Stream := { x with
              ring := st.ring.set place ⟨.filled, q, seg, idx, cells⟩
              mismatchRun := 0
              counters := x.counters.set StreamCounter.accepted.idx (satInc (st.count .accepted)) }
           let later : Bool := y.ring.any (fun sl => decide
             ((sl.state = .filled ∨ sl.state = .recovered ∨ sl.state = .recovering) ∧ Follows sl.seq q))
           let honoured := frameContinuity f.bytes = 2 ∧ later = false ∧ (st.breakSeq = none ∨ pending = true)
           (frameContinuity f.bytes ≠ 1 → frameContinuity f.bytes ≠ 2 → z = y)
           ∧ (frameContinuity f.bytes = 1 → z =
              if st.endSeq.all (fun e => decide (Follows e q)) then
                { y with endSeq := some q, state := if st.state = .playing then .draining else st.state }
              else y)
           ∧ (frameContinuity f.bytes = 2 → later = true → z = { y with
              counters := y.counters.set StreamCounter.breaksIgnored.idx (satInc (st.count .breaksIgnored)) })
           ∧ (honoured → st.breakSeq = none → z = { y with breakSeq := some q })
           ∧ (honoured → pending = true → z = { y with secondBreak := some q })
           ∧ ((∀ hd, st.holder = some hd → ¬(q - hd.first).toNat < hd.g ∧ ¬honoured) →
              u.stream i = z ∧ u.requests = s.requests)
           ∧ ∀ hd, st.holder = some hd → ((q - hd.first).toNat < hd.g ∨ honoured) →
              HolderTested i an hd z s.requests (u.stream i) u.requests)
        ∧ (let left : Pool := if (u.stream i).holder = none then
              s.pool.release ((st.holder.map (fun hd => hd.cells)).getD []) else s.pool
           u.pool.free + st.k = left.free ∧ u.pool.charged i = left.charged i + st.k
           ∧ ∀ c ∈ left.held, c ∈ u.pool.held)
        ∧ (∀ j : Nat, j < st.n * st.channels →
            u.pool.wordAt cells j = (payloadWords (framePayload f.bytes)).getD j 0)
        ∧ (∀ c ∈ u.pool.held, c.id ∈ cells → c.owner = some i ∧ c.holders = if copies then 2 else 1)
        ∧ u.relay = (if copies then { s.relay with queues := s.relay.queues.set target { s.relay.queue target with
              entries := (s.relay.queue target).entries
                ++ [⟨.audio, some i, f.bytes.take 16, stamp, f.bytes.length, cells⟩] } }
            else s.relay)
        ∧ (∀ c : PartCounter, u.partCount c =
            if c = .relayCopies ∧ copies ∨ c = .relayDrop ∧ drops
              ∨ c = .relayLinkDown ∧ st.relay = true ∧ s.relay.link ≠ .up then satInc (s.partCount c)
            else s.partCount c)
        ∧ (∀ c : PartCode, u.partSet c = (s.partSet c || decide
            (c = .storeLow ∧ s.pool.free < s.pool.lowWater + st.k ∨ c = .relayDrop ∧ drops)))
        ∧ AdmissionFrame i s u ∧ u.port = (headTaken s).port ∧ u.channels = s.channels ∧ u.recovery = s.recovery
    (∀ an : Anchor, st.anchor = some an → ¬Follows an.base q → (q - an.base).toNat < st.depth →
      Passed q st.endSeq = false → Passed q st.secondBreak = false →
      ((st.slotOf an q).state = .empty ∨ (st.slotOf an q).state = .recovering) →
      (pending = false → (signed48 stamp (stampOf st an.a (an.eBase + (q - an.base).toNat))).natAbs ≤ st.tol →
        leaves st an (an.position st.depth q) .current (an.eBase + (q - an.base).toNat))
      ∧ (∀ pa : PendingAnchor, pending = true → st.pendingAnchor = some pa → ¬Follows pa.b q →
        (signed48 stamp (stampOf st pa.a (q - pa.b).toNat)).natAbs ≤ st.tol →
        leaves st an (an.position st.depth q) .pending (q - pa.b).toNat)
      ∧ (pending = true → st.pendingAnchor = none →
        leaves { st with pendingAnchor := some ⟨stamp, q⟩ } an (an.position st.depth q) .pending 0))
    ∧ (st.anchor = none → st.breakSeq = none →
      let an : Anchor := ⟨stamp, q, 0, q, q.toNat % st.depth⟩
      leaves { st with
        anchor := some an, missedRun := 0
        counters := st.counters.set StreamCounter.anchors.idx (satInc (st.count .anchors)) } an (q.toNat % st.depth) .current 0)

/-- AUDIO_ADMISSION of a frame whose stamp fails while the mismatch run is 3 (R52, R60, R61): the stream is flushed, REANCHORED is
set, REANCHORS and FLUSHES count, and the frame is judged again as a frame of a LISTENING stream: refused NOT_LOCKED outside
LOCKED, then LATE or EARLY, and counted there alone; or, with room for its cells, it anchors the stream. No other stream is
touched. -/
def Obligations.StampRunReanchors : Prop :=
  ∀ (s : State) (f : InFrame) (rest : List InFrame) (i : Fin 8) (an : Anchor) (h : Time), s.port.intake = f :: rest →
    s.port.handed = [.admission] → Keyed s f i → (s.stream i).localPlay = true → (s.stream i).running = true →
    (s.stream i).anchor = some an → s.tlu.htEst f.arrival = some h →
    let st := s.stream i
    let q := frameSeq f.bytes
    let stamp := frameStamp f.bytes
    framePayloadLength f.bytes = st.n * st.channels * 3 → ¬Follows an.base q → (q - an.base).toNat < st.depth →
    Passed q st.endSeq = false → Passed q st.secondBreak = false →
    ((st.slotOf an q).state = .empty ∨ (st.slotOf an q).state = .recovering) → 3 ≤ st.mismatchRun →
    (Passed q st.breakSeq = false
        ∧ st.tol < (signed48 stamp (stampOf st an.a (an.eBase + (q - an.base).toNat))).natAbs
      ∨ Passed q st.breakSeq = true ∧ ∃ pa, st.pendingAnchor = some pa ∧ ¬Follows pa.b q
        ∧ st.tol < (signed48 stamp (stampOf st pa.a (q - pa.b).toNat)).natAbs) →
    let again : Option StreamCounter :=
      if s.tlu.timeState ≠ .locked then some .notLocked
      else if signed48 (stamp - BitVec.ofNat 48 (s.latencyMax i)) h ≤ 0 then some .late
      else if (st.horizon : Int) < signed48 stamp h then some .early
      else none
    ∃ u : State, exec .audioAdmission s = .next u.endEvent
      ∧ (u.stream i).codeSet .reanchored = true
      ∧ (u.stream i).count .reanchors = satInc (st.count .reanchors)
      ∧ (u.stream i).count .flushes = satInc (st.count .flushes)
      ∧ (u.stream i).count .stampMismatch = st.count .stampMismatch
      ∧ (∀ c, again = some c → (u.stream i).state = .listening ∧ Flushed (u.stream i)
          ∧ (u.stream i).count c = satInc (st.count c))
      ∧ (again = none → s.pool.charged i + st.k ≤ st.quota → st.k ≤ s.pool.free → PoolFormed s →
          st.ring.length = st.depth →
          ∃ cells, cells.length = st.k ∧ (u.stream i).state = .primed
            ∧ (u.stream i).anchor = some ⟨stamp, q, 0, q, q.toNat % st.depth⟩
            ∧ (u.stream i).slotAt (q.toNat % st.depth) = ⟨.filled, q, .current, 0, cells⟩
            ∧ (u.stream i).count .anchors = satInc (st.count .anchors)
            ∧ (u.stream i).count .accepted = satInc (st.count .accepted))
      ∧ u.requests = s.requests.filter (fun j => j != i)
      ∧ (∀ c : Fin 8, u.channel c = { s.channel c with
          primaryPos := if names (s.channel c).primarySrc i then .fresh else (s.channel c).primaryPos
          overlayPos := if names (s.channel c).overlaySrc i then .fresh else (s.channel c).overlayPos })
      ∧ AdmissionFrame i s u ∧ u.port = (headTaken s).port ∧ u.recovery = s.recovery

/-- PARITY_ADMISSION on the anchored path (R91 to R96, R148): a parity that passes, of a group with no MISSED slot and not all
good, takes the holder with k new cells that hold its words and are owned by the stream, so charged to it; a parity that was in
the holder leaves it first, whatever its group, its cells released and counted in PARITY_REPLACED. The stream's request waits
exactly when one slot of the group is EMPTY and the others are good. A relaying stream's copy shares the cells, which then have
two holders, when the link is UP and its queue has room. The stream is otherwise as it was, and no other is touched. -/
def Obligations.ParityTakesTheHolder : Prop :=
  ∀ (s : State) (f : InFrame) (rest : List InFrame) (i : Fin 8) (an : Anchor), s.port.intake = f :: rest →
    s.port.handed = [.parity] → (s.stream i).key = frameKey f.bytes →
    (∀ j : Fin 8, j ≠ i → (s.stream j).state = .idle ∨ (s.stream j).key ≠ frameKey f.bytes) →
    (s.stream i).localPlay = true → (s.stream i).running = true → (s.stream i).anchor = some an →
    (s.stream i).g ≠ 0 → frameGroup f.bytes = (s.stream i).g → (s.stream i).depth ≤ 64 →
    framePayloadLength f.bytes = (s.stream i).n * (s.stream i).channels * 3 →
    let first := frameSeq f.bytes
    let last := first + BitVec.ofNat 16 (s.stream i).g - 1
    let group := groupSeqs first (s.stream i).g
    ¬(1 ≤ (an.base - first).toNat ∧ (an.base - first).toNat ≤ 32767) →
    (last - an.base).toNat < (s.stream i).depth →
    (∀ e, (s.stream i).endSeq = some e → ¬(1 ≤ (last - e).toNat ∧ (last - e).toNat ≤ 32767)) →
    (∀ q ∈ group, ∀ k, (s.stream i).breakSeq = some k → ¬(1 ≤ (q - k).toNat ∧ (q - k).toNat ≤ 32767)) →
    s.pool.charged i + (s.stream i).k ≤ (s.stream i).quota → (s.stream i).k ≤ s.pool.free →
    (∀ q ∈ group, ((s.stream i).slotOf an q).state ≠ .missed) →
    (∃ q ∈ group, ((s.stream i).slotOf an q).good = false) →
    ∃ t cells, exec .parityAdmission s = .next t
      ∧ (t.stream i).holder = some ⟨first, (s.stream i).g, cells⟩ ∧ cells.length = (s.stream i).k
      ∧ (t.stream i).ring = (s.stream i).ring ∧ (t.stream i).state = (s.stream i).state
      ∧ (t.stream i).anchor = (s.stream i).anchor
      ∧ (t.stream i).count .parityAccepted = satInc ((s.stream i).count .parityAccepted)
      ∧ (t.stream i).count .parityReplaced = (if (s.stream i).holder = none then (s.stream i).count .parityReplaced
          else satInc ((s.stream i).count .parityReplaced))
      ∧ t.stream i = { s.stream i with holder := (t.stream i).holder, counters := (t.stream i).counters }
      ∧ (let target := s.relay.queueFor (some (s.stream i).prio) (frameClass f.bytes) (frameSource f.bytes)
         let copies := (s.stream i).relay = true ∧ s.relay.link = .up ∧ (s.relay.queue target).entries.length < 32
         t.relay = (if copies then { s.relay with queues := s.relay.queues.set target { s.relay.queue target with
              entries := (s.relay.queue target).entries
                ++ [⟨.parity, some i, f.bytes.take 16, frameStamp f.bytes, f.bytes.length, cells⟩] } }
            else s.relay)
         ∧ (PoolFormed s → f.bytes.length = framePayloadLength f.bytes + 20 →
            let left := s.pool.release (((s.stream i).holder.map (fun x => x.cells)).getD [])
            (∀ j : Nat, j < (s.stream i).n * (s.stream i).channels →
              t.pool.wordAt cells j = (payloadWords (framePayload f.bytes)).getD j 0)
            ∧ (∀ c ∈ t.pool.held, c.id ∈ cells → c.owner = some i ∧ c.holders = if copies then 2 else 1)
            ∧ t.pool.held.filter (fun c => !cells.contains c.id) = left.held
            ∧ t.pool.charged i = left.charged i + (s.stream i).k ∧ t.pool.free + (s.stream i).k = left.free))
      ∧ (i ∈ t.requests ↔ ((group.countP (fun q => ((s.stream i).slotOf an q).state == .empty)) = 1
          ∧ ∀ q ∈ group, ((s.stream i).slotOf an q).state = .empty ∨ ((s.stream i).slotOf an q).good = true))
      ∧ AdmissionFrame i s t ∧ t.port = (headTaken s).port ∧ t.channels = s.channels ∧ t.recovery = s.recovery

/-- PARITY_ADMISSION, the refusals in the order of R91, and the frames that take no holder (R92 to R95, R148): the key; a stream
that neither has an anchor nor listens for relay alone; the group size and the size; on the anchored path the window of the
group (before the base, beyond the depth, after the end, past the break); the quota and the pool. A refused frame leaves
everything but its counter and its buffer as it was. On the anchored path a group with a MISSED slot is counted as expired,
and one whose slots are all good as complete; neither takes the holder, which keeps what it held. On the relay-only path a
parity that passes is accepted and takes no holder. Of each of the three a relaying stream offers a copy with cells of its
own, declined, dropped or taken as `CopyOffered` says; one that does not relay offers none. -/
def Obligations.ParityRefusalsAndCopies : Prop :=
  ∀ (s : State) (f : InFrame) (rest : List InFrame), s.port.intake = f :: rest → s.port.handed = [.parity] →
    s.du.gathered = false →
    ((∀ i : Fin 8, (s.stream i).state = .idle ∨ (s.stream i).key ≠ frameKey f.bytes) →
      exec .parityAdmission s = .next ((headTaken s).bump .parityUnknownKey))
    ∧ ∀ i : Fin 8, Keyed s f i →
      let st := s.stream i
      let first := frameSeq f.bytes
      let last := first + BitVec.ofNat 16 st.g - 1
      let refused (c : StreamCounter) : Prop := exec .parityAdmission s = .next ((headTaken s).bumpStream i c)
      let accepted := (headTaken s).bumpStream i .parityAccepted
      let offers (x : State) : Prop :=
        (st.relay = false → exec .parityAdmission s = .next x)
        ∧ (st.relay = true → CopyOffered i .parity f x (exec .parityAdmission s))
      let size : Option StreamCounter :=
        if st.g = 0 ∨ frameGroup f.bytes ≠ st.g then some .parityNoParity
        else if framePayloadLength f.bytes ≠ st.n * st.channels * 3 then some .paritySizeMismatch
        else none
      let store : Option StreamCounter :=
        if st.quota < s.pool.charged i + st.k then some .parityQuota
        else if s.pool.free < st.k then some .parityStoreFull
        else none
      (st.localPlay = true → (st.running = false ∨ st.anchor = none) → refused .parityNotAnchored)
      ∧ (st.localPlay = false → st.state ≠ .listening → refused .parityNotAnchored)
      ∧ (∀ an : Anchor, st.localPlay = true → st.running = true → st.anchor = some an →
          let window : Option StreamCounter :=
            if Follows an.base first then some .parityLate
            else if st.depth ≤ (last - an.base).toNat then some .parityAhead
            else if Passed last st.endSeq then some .parityAfterEnd
            else if Passed last st.breakSeq then some .parityAhead
            else none
          (∀ c, size.or (window.or store) = some c → refused c)
          ∧ (size.or (window.or store) = none →
            ((∃ x ∈ groupSeqs first st.g, (st.slotOf an x).state = .missed) →
              offers (accepted.bumpStream i .parityExpired))
            ∧ ((∀ x ∈ groupSeqs first st.g, (st.slotOf an x).state = .filled ∨ (st.slotOf an x).state = .recovered) →
              offers (accepted.bumpStream i .groupComplete))))
      ∧ (st.localPlay = false → st.state = .listening →
          (∀ c, size.or store = some c → refused c) ∧ (size.or store = none → offers accepted))

/-- RECOVERY_START (R99, R100): with room for k cells the operation starts, for the one EMPTY slot of the group, which becomes
RECOVERING; its k output cells are new, held by the operation alone, owned by the stream and so charged to it, and the parity
cells are the operation's as they were; STORE_LOW alone may be raised. With no room the parity is discarded and
RECOVERY_NO_STORE counts. That the next request waits for a start of its own is the model's reading (log 14). -/
def Obligations.RecoveryStartResult : Prop :=
  ∀ (s : State) (i : Fin 8) (rest : List (Fin 8)) (h : ParityHolder) (an : Anchor) (q : Seq), s.recovery = none →
    s.requests = i :: rest → i ∉ rest → (s.stream i).holder = some h → (s.stream i).anchor = some an →
    q ∈ groupSeqs h.first h.g → ((s.stream i).slotOf an q).state = .empty →
    (∀ q' ∈ groupSeqs h.first h.g, q' ≠ q → ((s.stream i).slotOf an q').state ≠ .empty) →
    (s.pool.charged i + (s.stream i).k ≤ (s.stream i).quota ∧ (s.stream i).k ≤ s.pool.free →
      ∃ u cells, exec .recoveryStart s = .next u.endEvent
        ∧ cells.length = (s.stream i).k
        ∧ u.recovery = some {
            stream := some i, target := q, position := an.position (s.stream i).depth q
            operands := (groupSeqs h.first h.g).filter (fun x => x != q)
            nWords := (s.stream i).n * (s.stream i).channels
            parityCells := h.cells, outCells := cells, start := s.lc
            duration := h.g * ((s.stream i).n * (s.stream i).channels) + 8 }
        ∧ u.stream i = { s.stream i with
            holder := none
            ring := (s.stream i).ring.set (an.position (s.stream i).depth q) ⟨.recovering, q, .current, an.index q, []⟩ }
        ∧ u.requests = rest
        ∧ (PoolFormed s →
          u.pool.free + (s.stream i).k = s.pool.free ∧ u.pool.charged i = s.pool.charged i + (s.stream i).k
          ∧ (∀ c ∈ s.pool.held, c ∈ u.pool.held)
          ∧ ∀ c ∈ u.pool.held, c.id ∈ cells ↔ c.owner = some i ∧ c.holders = 1 ∧ c ∉ s.pool.held)
        ∧ (∀ c : PartCode, u.partSet c
            = (s.partSet c || decide (c = .storeLow ∧ s.pool.free < s.pool.lowWater + (s.stream i).k)))
        ∧ u.counters = s.counters
        ∧ AdmissionFrame i s u ∧ u.port = s.port ∧ u.relay = s.relay ∧ u.channels = s.channels)
    ∧ (¬(s.pool.charged i + (s.stream i).k ≤ (s.stream i).quota ∧ (s.stream i).k ≤ s.pool.free) →
        s.du.gathered = false →
        exec .recoveryStart s = .next (({ s with
            requests := rest
            streams := s.streams.set i { s.stream i with holder := none }
            pool := s.pool.release h.cells }).bumpStream i .recoveryNoStore))

/-- RECOVERY_COMPLETION once the operation's ticks have passed (R48, R96, R97, R101 to R103; log 26, 27, the model's choice). A
RECOVERING target takes the output cells over, with the owner they had, and the words they then hold are the exclusive-or of the
parity's and the operands' words. A target in any other state, of a stream that a flush, a close or an end has left with no
anchor too, is as it was: the outputs are released and the result counts as discarded. Either way the parity cells are released,
and a parity held, of whose group the target is, is then tested. A detached operation gives all its cells back and nothing
counts. -/
def Obligations.RecoveryCompletionResult : Prop :=
  ∀ (s : State) (op : RecoveryOp), s.recovery = some op → op.duration ≤ (s.lc - op.start).toNat →
    (op.stream = none → exec .recoveryCompletion s = .next { s with
      recovery := none, pool := (s.pool.release op.outCells).release op.parityCells })
    ∧ ∀ i : Fin 8, op.stream = some i →
      let st := s.stream i
      let ofGroup (hd : ParityHolder) : Prop := (op.target - hd.first).toNat < hd.g
      ((st.slotAt op.position).state = .recovering →
        ∀ an : Anchor, st.anchor = some an → op.position < st.ring.length → PoolFormed s → op.outCells.Nodup →
        (∀ id ∈ op.outCells, id ∉ op.parityCells ∧ ∃ c ∈ s.pool.held, c.id = id) →
        (∀ hd, st.holder = some hd → ∀ id ∈ op.outCells, id ∉ hd.cells) →
        op.nWords ≤ 128 * op.outCells.length → op.nWords ≤ 128 * op.parityCells.length →
        (∀ id ∈ op.parityCells, (s.pool.words id).length = 128) →
        (∀ q ∈ op.operands, op.nWords ≤ 128 * (st.slotOf an q).cells.length
          ∧ ∀ id ∈ (st.slotOf an q).cells, (s.pool.words id).length = 128) →
        let z : Stream := { st.counted .recovered with
          ring := st.ring.set op.position { st.slotAt op.position with state := .recovered, cells := op.outCells } }
        ∃ t, exec .recoveryCompletion s = .next t
          ∧ t.recovery = none
          ∧ ((∀ hd, st.holder = some hd → ¬ofGroup hd) → t.stream i = z ∧ t.requests = s.requests)
          ∧ (∀ hd, st.holder = some hd → ofGroup hd → HolderTested i an hd z s.requests (t.stream i) t.requests)
          ∧ (∀ j : Nat, j < op.nWords → t.pool.wordAt op.outCells j
              = op.operands.foldl (fun acc q => acc ^^^ s.pool.wordAt (st.slotOf an q).cells j)
                  (s.pool.wordAt op.parityCells j))
          ∧ (let left := (s.pool.release op.parityCells).release (if (t.stream i).holder = none then
                (st.holder.map (fun hd => hd.cells)).getD [] else [])
             t.pool.held.map (fun c => (c.id, c.holders, c.owner)) = left.held.map (fun c => (c.id, c.holders, c.owner)))
          ∧ AdmissionFrame i s t ∧ t.port = s.port ∧ t.relay = s.relay ∧ t.channels = s.channels ∧ t.du = s.du
          ∧ t.counters = s.counters)
      ∧ ((st.slotAt op.position).state ≠ .recovering →
        let x := ({ s with
          recovery := none
          pool := (s.pool.release op.outCells).release op.parityCells }).bumpStream i .recoveryDiscarded
        ((st.anchor = none ∨ ∀ hd, st.holder = some hd → ¬ofGroup hd) → exec .recoveryCompletion s = .next x)
        ∧ ∀ hd an, st.holder = some hd → st.anchor = some an → ofGroup hd →
          ∃ t, exec .recoveryCompletion s = .next t
            ∧ HolderTested i an hd (st.counted .recoveryDiscarded) s.requests (t.stream i) t.requests
            ∧ t.pool = (if (t.stream i).holder = none then x.pool.release hd.cells else x.pool)
            ∧ (∀ j : Fin 8, j ≠ i → t.stream j = s.stream j)
            ∧ t = { x with streams := t.streams, requests := t.requests, pool := t.pool })

/-! ## Readers, channels and lanes -/

/-- READER_PERIOD of a reader (R110 to R113, R122, R123). Of a stream that is not PRIMED, PLAYING or DRAINING it hands 0. In the
current segment, past no end and no break and in the frame it already stands in, its position is the house-time position held
monotone, and it hands the sample interpolated between the two words it stands between. After the last sample of a frame the
neighbour is the first sample of the next one when that is good, in the window and past no end and no break, and otherwise the
sample itself. Nothing else of the part changes. A reader that has left the stream since the edge is taken too (R134), reads that
stream as one that starts afresh in its current segment, and leaves its own new place and the stream's record, but for its
concealment counters, as they were; what it reads, and from where, is the model's choice (log 12). -/
def Obligations.ReaderHandsItsSample : Prop :=
  ∀ (s : State) (p : OutputPeriod) (r : ReaderId) (i ch : Fin 8), s.lanes.period = some p →
    p.dueSource r = some (i, ch) → s.du.gathered = false →
    let stays := s.readerStream r = some i
    ((s.stream i).running = false →
      exec (.readerPeriod r) s = .next (s.setPeriod (some ((p.served r).hand r 0))))
    ∧ (¬stays → ∃ (y : Int) (u : State), exec (.readerPeriod r) s = .next u
      ∧ (∀ j : Fin 8, u.stream j = { s.stream j with counters := (u.stream j).counters })
      ∧ (∀ (j : Fin 8) (c : StreamCounter), j ≠ i ∨ c ≠ .concealedRepeat ∧ c ≠ .concealedSilence →
          (u.stream j).count c = (s.stream j).count c)
      ∧ u = { s with streams := u.streams, lanes := { s.lanes with period := some ((p.served r).hand r y) } })
    ∧ ∀ (an : Anchor) (h : Time) (cells : List Nat),
      (s.stream i).state = .playing ∨ (s.stream i).state = .draining → (s.stream i).localPlay = true →
      (stays → (s.readerPos r).seg = .current) → (s.stream i).anchor = some an → s.tlu.htEst p.edge = some h →
      0 ≤ signed48 (h + BitVec.ofNat 48 (s.readerLatency r)) an.a →
      (s.stream i).depth ≤ 64 → ch.val < (s.stream i).channels → 0 < (s.stream i).n →
      let q0 := (signed48 (h + BitVec.ofNat 48 (s.readerLatency r)) an.a).toNat * (s.stream i).fs / 96000
      let q := if stays then max ((s.readerPos r).last.getD 0) q0 else q0
      let e := q / 256 / (s.stream i).n
      let o := q / 256 % (s.stream i).n
      BeforeEnd (s.stream i) an e → BeforeBreak (s.stream i) an e → (stays → (s.readerPos r).frame = some e) →
      ((an.b + BitVec.ofNat 16 e) - an.base).toNat < (s.stream i).depth →
      ((s.stream i).slotOf an (an.b + BitVec.ofNat 16 e)).good = true →
      ((s.stream i).slotOf an (an.b + BitVec.ofNat 16 e)).cells = cells →
      let next := an.b + BitVec.ofNat 16 (e + 1)
      let nextGood : Prop := BeforeEnd (s.stream i) an (e + 1) ∧ BeforeBreak (s.stream i) an (e + 1)
        ∧ (next - an.base).toNat < (s.stream i).depth ∧ ((s.stream i).slotOf an next).good = true
      let x := (s.pool.wordAt cells (o * (s.stream i).channels + ch.val)).toInt
      let hands (x1 : Int) : Prop :=
        exec (.readerPeriod r) s = .next (
          (if stays then s.setReaderPos r { s.readerPos r with last := some q } else s).setPeriod
          (some ((p.served r).hand r (x + ((x1 - x) * (q % 256 : Nat) + 128).fdiv 256))))
      (o + 1 < (s.stream i).n → hands (s.pool.wordAt cells ((o + 1) * (s.stream i).channels + ch.val)).toInt)
      ∧ (o + 1 = (s.stream i).n →
        (nextGood → hands (s.pool.wordAt ((s.stream i).slotOf an next).cells ch.val).toInt) ∧ (¬nextGood → hands x))

/-- READER_PERIOD of a stream's lead (R54, R59, R111, R113, R117, R119). Before the anchor a reader hands 0 and nothing else
changes. From it on the lead makes a PRIMED stream PLAYING, or DRAINING when its end is known. In a frame it already stands in
it enters nothing. Entering a frame: a good one ends the MISSED run; an EMPTY or RECOVERING one becomes MISSED, and a frame
beyond the window counts without a mark: the run and MISSED_SLOTS count and LOSS is set; one already MISSED or before the base
changes nothing. A mark in the group of the parity held makes it expire (R96, R97): PARITY_EXPIRED counts, its cells are
released and its request leaves; for a lead that is not the trail too, any other entry leaves the holder, the requests and the
pool as they were. The eighth in succession starves the stream: it is flushed to LISTENING, STARVED is set, STARVATIONS and
FLUSHES count, and the lead hands 0; that an expiry counts first is the model's reading (log 33). No other stream is touched. -/
def Obligations.LeadEntersFrames : Prop :=
  (∀ (s : State) (p : OutputPeriod) (r : ReaderId) (i ch : Fin 8) (an : Anchor) (h : Time), s.lanes.period = some p →
    p.dueSource r = some (i, ch) → (s.stream i).running = true → (s.readerPos r).seg = .current →
    (s.stream i).anchor = some an → s.tlu.htEst p.edge = some h → s.du.gathered = false →
    signed48 (h + BitVec.ofNat 48 (s.readerLatency r)) an.a < 0 →
    exec (.readerPeriod r) s = .next (s.setPeriod (some ((p.served r).hand r 0))))
  ∧ ∀ (s : State) (p : OutputPeriod) (r : ReaderId) (i ch : Fin 8) (an : Anchor) (q e : Nat),
    Stands s p r i ch an q → e = q / 256 / (s.stream i).n → BeforeEnd (s.stream i) an e → BeforeBreak (s.stream i) an e →
    s.lead i = some r → e < 2 ^ 30 → (s.stream i).ring.length = (s.stream i).depth → 0 < (s.stream i).depth →
    let st := s.stream i
    let x := an.b + BitVec.ofNat 16 e
    let slot := st.slotOf an x
    let played : StreamState :=
      if st.state = .primed then (if st.endSeq = none then .playing else .draining) else st.state
    let inside := (x - an.base).toNat < st.depth
    let marks := ¬Follows an.base x ∧ inside ∧ (slot.state = .empty ∨ slot.state = .recovering)
    let misses := marks ∨ ¬Follows an.base x ∧ ¬inside
    let good := ¬Follows an.base x ∧ inside ∧ slot.good = true
    let expires := marks ∧ ∃ hd, st.holder = some hd ∧ (x - hd.first).toNat < hd.g
    ∃ u : State, exec (.readerPeriod r) s = .next u.endEvent
      ∧ (∀ j : Fin 8, j ≠ i → u.stream j = s.stream j) ∧ u.relay = s.relay ∧ u.tlu = s.tlu ∧ u.port = s.port
      ∧ u.ident = s.ident ∧ u.lines = s.lines ∧ u.lc = s.lc ∧ u.pending = s.pending ∧ u.counters = s.counters
      ∧ ((s.readerPos r).frame = some e → (u.stream i).state = played ∧ (u.stream i).missedRun = st.missedRun
          ∧ (u.stream i).ring = st.ring ∧ (u.stream i).anchor = st.anchor ∧ (u.stream i).counters = st.counters
          ∧ (u.stream i).attention = st.attention ∧ u.pool = s.pool ∧ (u.stream i).holder = st.holder
          ∧ u.requests = s.requests)
      ∧ ((s.readerPos r).frame ≠ some e →
        (expires → (u.stream i).holder = none ∧ (u.stream i).count .parityExpired = satInc (st.count .parityExpired)
          ∧ u.requests = s.requests.filter (fun j => j != i)
          ∧ (s.trail i ≠ some r → st.missedRun + 1 < 8 →
            u.pool = s.pool.release ((st.holder.map (fun hd => hd.cells)).getD [])))
        ∧ (¬expires → s.trail i ≠ some r → (u.stream i).count .parityExpired = st.count .parityExpired
          ∧ (¬misses ∨ st.missedRun + 1 < 8 → (u.stream i).holder = st.holder ∧ u.requests = s.requests ∧ u.pool = s.pool))
        ∧ (¬misses → (u.stream i).state = played ∧ (u.stream i).missedRun = (if good then 0 else st.missedRun)
          ∧ (u.stream i).count .missedSlots = st.count .missedSlots ∧ (u.stream i).attention = st.attention)
        ∧ (misses → (u.stream i).codeSet .loss = true
          ∧ (u.stream i).count .missedSlots = satInc (st.count .missedSlots)
          ∧ (st.missedRun + 1 < 8 → (u.stream i).state = played ∧ (u.stream i).missedRun = st.missedRun + 1
            ∧ (marks → (u.stream i).slotAt (an.position st.depth x) = ⟨.missed, x, .current, e, []⟩))
          ∧ (8 ≤ st.missedRun + 1 → (u.stream i).state = .listening ∧ Flushed (u.stream i)
            ∧ (u.stream i).codeSet .starved = true
            ∧ (u.stream i).count .starvations = satInc (st.count .starvations)
            ∧ (u.stream i).count .flushes = satInc (st.count .flushes)
            ∧ u.requests = s.requests.filter (fun j => j != i)
            ∧ u.lanes.period = some ((p.served r).hand r 0))))

/-- READER_PERIOD of a stream's trail that enters a frame (R62, R87, R96, R97, R102, R118, R125). The retirement target is the
frame when it is good and the one before it otherwise. A target above the base empties every slot of the current segment below
it, releases their cells, and makes it the base; the RECOVERING target of the stream's operation in flight returns to EMPTY when
the slot of an operand is among them. A parity held expires when the base passes a sequence of its group, or when a lead that is
the trail too has marked a slot of its group, as it does first (R117): PARITY_EXPIRED counts, its cells are released and its
request leaves; otherwise the holder and the requests are as they were. A base at or above 2^30 rebases: the anchor becomes the
expected stamp and the sequence of the base frame, its index 0, and REBASES counts; the indices of the segment's slots and the
places of its readers go down with it, and a value below the new origin becomes absent (log 42, the model's choice). No other
stream is touched. -/
def Obligations.TrailRetires : Prop :=
  ∀ (s : State) (p : OutputPeriod) (r : ReaderId) (i ch : Fin 8) (an : Anchor) (q e : Nat),
    Stands s p r i ch an q → e = q / 256 / (s.stream i).n → BeforeEnd (s.stream i) an e → BeforeBreak (s.stream i) an e →
    s.trail i = some r → (s.readerPos r).frame ≠ some e → (s.stream i).depth ≤ 64 →
    (s.lead i = some r → (s.stream i).missedRun < 7) → (s.stream i).ring.length = (s.stream i).depth →
    let st := s.stream i
    let x := an.b + BitVec.ofNat 16 e
    let slot := st.slotOf an x
    let inside := (x - an.base).toNat < st.depth
    let target : Nat := if inside ∧ slot.good = true then e else e - 1
    let marks := s.lead i = some r ∧ inside ∧ (slot.state = .empty ∨ slot.state = .recovering)
    let ring : List Slot :=
      if marks then st.ring.set (an.position st.depth x) ⟨.missed, x, .current, e, []⟩ else st.ring
    let below (sl : Slot) : Bool :=
      decide (sl.state ≠ .empty ∧ sl.seg = .current ∧ an.eBase ≤ sl.idx ∧ sl.idx < target)
    let base : Seq := an.b + BitVec.ofNat 16 target
    let place := (an.pBase + (target - an.eBase)) % st.depth
    let gone : List Nat := if an.eBase < target then (ring.filter below).flatMap (fun sl => sl.cells) else []
    let held : List Nat := (st.holder.map (fun hd => hd.cells)).getD []
    let marked := marks ∧ ∃ hd, st.holder = some hd ∧ (x - hd.first).toNat < hd.g
    let passed := an.eBase < target ∧ ∃ hd, st.holder = some hd ∧ ∃ y ∈ groupSeqs hd.first hd.g, Follows base y
    let less (n : Nat) (v : Option Nat) : Option Nat := v.bind (fun v => if n ≤ v then some (v - n) else none)
    ∃ u : State, exec (.readerPeriod r) s = .next u.endEvent
      ∧ (target ≤ an.eBase → (u.stream i).anchor = some an ∧ (u.stream i).ring = ring)
      ∧ (marked ∨ passed → (u.stream i).holder = none
          ∧ (u.stream i).count .parityExpired = satInc (st.count .parityExpired)
          ∧ u.requests = s.requests.filter (fun j => j != i)
          ∧ u.pool = s.pool.release (if marked then held ++ gone else gone ++ held))
      ∧ (¬marked → ¬passed → (u.stream i).holder = st.holder
          ∧ (u.stream i).count .parityExpired = st.count .parityExpired ∧ u.requests = s.requests
          ∧ u.pool = s.pool.release gone)
      ∧ (target ≤ an.eBase ∨ target < 2 ^ 30 → u.readerPos r = ⟨.current, some q, some e⟩
          ∧ (u.stream i).count .rebases = st.count .rebases
          ∧ ∀ r' : ReaderId, r' ≠ r → u.readerPos r' = s.readerPos r')
      ∧ (an.eBase < target →
          (target < 2 ^ 30 →
            (u.stream i).anchor = some { an with base := base, pBase := place, eBase := target }
            ∧ (u.stream i).ring = emptiedRing s i ring below)
          ∧ (2 ^ 30 ≤ target →
            (u.stream i).anchor = some ⟨stampOf st an.a target, base, 0, base, place⟩
            ∧ (u.stream i).ring = (emptiedRing s i ring below).map (fun sl =>
                if sl.seg = .current ∧ sl.state ≠ .empty then { sl with idx := sl.idx - target } else sl)
            ∧ (u.stream i).count .rebases = satInc (st.count .rebases)
            ∧ u.readerPos r = ⟨.current, some (q - target * st.n * 256), some (e - target)⟩
            ∧ ∀ r' : ReaderId, r' ≠ r → u.readerPos r' =
              if (s.readerStream r' = some i ∨ r' = .virtual i) ∧ (s.readerPos r').seg = .current then
                ⟨.current, less (target * st.n * 256) (s.readerPos r').last, less target (s.readerPos r').frame⟩
              else s.readerPos r'))
      ∧ (∀ j : Fin 8, j ≠ i → u.stream j = s.stream j) ∧ u.relay = s.relay ∧ u.tlu = s.tlu ∧ u.recovery = s.recovery

/-- READER_PERIOD of a reader in a frame that is not good (R120 to R122). For a reader that stands in the frame already, or
that is neither the lead nor the trail: with the frame before it good and in the window, the sample is interpolated between
that frame's words at half level, rounded toward minus infinity; with that one not good either, before the base, or on a
stream channel that the stream has not, it is 0. After the last sample of a frame the neighbour is the first sample of the
next one, at full level, when that is good, in the window and past no end and no break, and otherwise the value itself (R122).
A mapped reader that enters a frame of the window counts CONCEALED_REPEAT or CONCEALED_SILENCE by the same rule when the frame
is not good, and neither when it is. -/
def Obligations.MissingFramesAreConcealed : Prop :=
  ∀ (s : State) (p : OutputPeriod) (r : ReaderId) (i ch : Fin 8) (an : Anchor) (q e : Nat),
    Stands s p r i ch an q → e = q / 256 / (s.stream i).n → BeforeEnd (s.stream i) an e → BeforeBreak (s.stream i) an e →
    (s.stream i).depth ≤ 64 →
    let st := s.stream i
    let x := an.b + BitVec.ofNat 16 e
    let o := q / 256 % st.n
    let goodAt (y : Seq) : Prop := (y - an.base).toNat < st.depth ∧ (st.slotOf an y).good = true
    let repeats := e ≠ 0 ∧ goodAt (an.b + BitVec.ofNat 16 (e - 1))
    let hands (y : Int) : Prop := ∃ u : State, exec (.readerPeriod r) s = .next u.endEvent
      ∧ u.lanes.period = some ((p.served r).hand r y) ∧ u.readerPos r = ⟨.current, some q, some e⟩ ∧ u.pool = s.pool
      ∧ (u.stream i).ring = st.ring
    ((s.readerPos r).frame = some e ∨ s.lead i ≠ some r ∧ s.trail i ≠ some r → o + 1 < st.n →
      (st.channels ≤ ch.val ∨ Follows an.base x → hands 0)
      ∧ (ch.val < st.channels → ¬Follows an.base x → ¬goodAt x →
        (¬repeats → hands 0)
        ∧ (repeats →
          let cells := (st.slotOf an (an.b + BitVec.ofNat 16 (e - 1))).cells
          let y := (s.pool.wordAt cells (o * st.channels + ch.val)).toInt.fdiv 2
          let y1 := (s.pool.wordAt cells ((o + 1) * st.channels + ch.val)).toInt.fdiv 2
          hands (y + ((y1 - y) * (q % 256 : Nat) + 128).fdiv 256))))
    ∧ ((s.readerPos r).frame = some e ∨ s.lead i ≠ some r ∧ s.trail i ≠ some r → o + 1 = st.n →
      let next := an.b + BitVec.ofNat 16 (e + 1)
      let nextGood : Prop := BeforeEnd st an (e + 1) ∧ BeforeBreak st an (e + 1) ∧ goodAt next
      let toNext (y : Int) : Prop :=
        (¬nextGood → hands y)
        ∧ (nextGood →
          let y1 := (s.pool.wordAt (st.slotOf an next).cells ch.val).toInt
          hands (y + ((y1 - y) * (q % 256 : Nat) + 128).fdiv 256))
      (st.channels ≤ ch.val → hands 0)
      ∧ (ch.val < st.channels → Follows an.base x ∨ ¬goodAt x ∧ ¬repeats → toNext 0)
      ∧ (ch.val < st.channels → ¬Follows an.base x → ¬goodAt x → repeats →
        toNext ((s.pool.wordAt (st.slotOf an (an.b + BitVec.ofNat 16 (e - 1))).cells
          (o * st.channels + ch.val)).toInt.fdiv 2)))
    ∧ ((s.readerPos r).frame ≠ some e → (∀ j, r ≠ .virtual j) → ch.val < st.channels →
      (s.lead i = some r → st.missedRun < 7) → an.base = an.b + BitVec.ofNat 16 an.eBase → an.eBase ≤ e →
      e < an.eBase + st.depth → e < 2 ^ 30 →
      (∀ j, j < st.depth → (st.slotOf an (an.base + BitVec.ofNat 16 j)).good = true →
        (st.slotOf an (an.base + BitVec.ofNat 16 j)).idx = an.eBase + j) →
      ∃ u : State, exec (.readerPeriod r) s = .next u.endEvent
        ∧ (u.stream i).count .concealedRepeat = (if ¬goodAt x ∧ repeats then satInc (st.count .concealedRepeat)
            else st.count .concealedRepeat)
        ∧ (u.stream i).count .concealedSilence = (if ¬goodAt x ∧ ¬repeats then satInc (st.count .concealedSilence)
            else st.count .concealedSilence))

/-- READER_PERIOD past the end or a break, of a stream that is PLAYING or DRAINING (R55, R57, R58, R113 to R115). Past the end a
reader hands 0; the trail of a DRAINING stream ends it: ENDED with its ring and holder emptied, their cells released, anchor,
base and end kept, and ENDED set. Past the break a reader that is not the trail goes on, in the same period, as a reader of the
pending segment with no position: silent while the pending anchor is absent or ahead. The trail switches the stream first: the
frames up to the break retire (read as every slot whose sequence does not follow it: log 33, the model's reading of R58's "up to
and including"), and with them any slot that then lies in no window (R74; log 44, the model's reading), and the RECOVERING target
of the stream's operation in flight returns to EMPTY when the slot of an operand is among them (R102); the pending segment
becomes the current one at the pending anchor, its slots with the indices of that segment (log 44 for one marked before the break
was known), or the stream awaits an anchor when there is none; its holder is emptied with no count (R97); its
readers come with it; SWITCHES counts; and the trail goes on from there. Past the second break a reader of the pending segment
hands 0 and waits. -/
def Obligations.EndAndSegmentSwitch : Prop :=
  ∀ (s : State) (p : OutputPeriod) (r : ReaderId) (i ch : Fin 8),
    (s.stream i).state = .playing ∨ (s.stream i).state = .draining →
    let st := s.stream i
    let silent (t : State) : State := t.setPeriod (some ((p.served r).hand r 0))
    (∀ (an : Anchor) (q e : Nat), Stands s p r i ch an q → e = q / 256 / st.n →
      let held := s.setReaderPos r { s.readerPos r with last := some q }
      (¬BeforeEnd st an e →
        (s.trail i ≠ some r ∨ st.state = .playing → s.du.gathered = false →
          exec (.readerPeriod r) s = .next (silent held))
        ∧ (s.trail i = some r → st.state = .draining → ∃ u : State, exec (.readerPeriod r) s = .next u.endEvent
          ∧ u.stream i = { held.stream i with
              state := .ended, ring := st.ring.map (fun _ => Slot.vacant), pendingAnchor := none, breakSeq := none
              secondBreak := none, mismatchRun := 0, missedRun := 0, holder := none
              attention := (u.stream i).attention }
          ∧ (∀ c : StreamCode, (u.stream i).codeSet c = (st.codeSet c || c == .ended))
          ∧ u.requests = s.requests.filter (fun j => j != i)
          ∧ u.pool = s.pool.release ((st.ring.filter (fun sl => sl.state != .empty)).flatMap (fun sl => sl.cells)
              ++ (st.holder.map (fun x => x.cells)).getD [])
          ∧ (∀ j : Fin 8, j ≠ i → u.stream j = s.stream j)
          ∧ u = { silent held with
              streams := u.streams, requests := u.requests, pool := u.pool
              du := { s.du with gathered := u.du.gathered } }))
      ∧ (∀ k : Seq, BeforeEnd st an e → st.breakSeq = some k → an.eBase + (k - an.base).toNat < e →
        let crossed := s.setReaderPos r ⟨.pending, none, none⟩
        (s.trail i ≠ some r → exec (.readerPeriod r) s = exec (.readerPeriod r) crossed
          ∧ (s.du.gathered = false →
            (st.pendingAnchor = none ∨ ∃ pa h, st.pendingAnchor = some pa ∧ s.tlu.htEst p.edge = some h
              ∧ signed48 (h + BitVec.ofNat 48 (s.readerLatency r)) pa.a < 0) →
            exec (.readerPeriod r) s = .next (silent crossed)))
        ∧ (s.trail i = some r →
          let gone (sl : Slot) : Bool := decide (sl.state ≠ .empty ∧ (¬Follows sl.seq k
            ∨ st.pendingAnchor.all (fun pa => decide (st.depth ≤ (sl.seq - pa.b).toNat)) = true))
          let retired : List Slot := emptiedRing s i st.ring gone
          let moved (x : ReaderPos) : ReaderPos := if x.seg = .pending then { x with seg := .current } else .fresh
          ∃ u : State, exec (.readerPeriod r) s = exec (.readerPeriod r) u
            ∧ (u.stream i).count .switches = satInc (st.count .switches)
            ∧ (∀ pa, st.pendingAnchor = some pa → u.stream i = { st with
                anchor := some ⟨pa.a, pa.b, 0, pa.b, (an.pBase + (pa.b - an.base).toNat) % st.depth⟩
                pendingAnchor := none, breakSeq := st.secondBreak, secondBreak := none, holder := none
                ring := retired.map (fun sl => if sl.seg = .current ∧ sl.state ≠ .empty then
                  { sl with idx := (sl.seq - pa.b).toNat } else { sl with seg := .current })
                virt := (u.stream i).virt, counters := (u.stream i).counters })
            ∧ (st.pendingAnchor = none → u.stream i = { st with
                anchor := none, breakSeq := none, secondBreak := none, holder := none, ring := retired
                virt := (u.stream i).virt, counters := (u.stream i).counters })
            ∧ (∀ c : StreamCounter, c ≠ .switches → (u.stream i).count c = st.count c)
            ∧ u.readerPos r = .fresh
            ∧ (∀ r' : ReaderId, r' ≠ r → u.readerPos r' =
                if s.readerStream r' = some i ∨ r' = .virtual i then moved (s.readerPos r') else s.readerPos r')
            ∧ u.pool = s.pool.release ((st.ring.filter gone).flatMap (fun sl => sl.cells)
                ++ (st.holder.map (fun x => x.cells)).getD [])
            ∧ u.requests = s.requests.filter (fun j => j != i)
            ∧ (∀ j : Fin 8, j ≠ i → u.stream j = s.stream j)
            ∧ u = { s with
                streams := u.streams, channels := u.channels, pool := u.pool, requests := u.requests })))
    ∧ ∀ (pa : PendingAnchor) (h : Time) (x : Seq) (q : Nat), s.lanes.period = some p → p.dueSource r = some (i, ch) →
      s.readerStream r = some i → st.localPlay = true → (s.readerPos r).seg = .pending → st.pendingAnchor = some pa →
      s.tlu.htEst p.edge = some h →
      0 ≤ signed48 (h + BitVec.ofNat 48 (s.readerLatency r)) pa.a →
      q = max ((s.readerPos r).last.getD 0)
        ((signed48 (h + BitVec.ofNat 48 (s.readerLatency r)) pa.a).toNat * st.fs / 96000) →
      st.secondBreak = some x → (x - pa.b).toNat < q / 256 / st.n → s.trail i ≠ some r → s.du.gathered = false →
      exec (.readerPeriod r) s = .next (silent (s.setReaderPos r { s.readerPos r with last := some q }))

/-- CHANNEL_PERIOD once neither of its readers has still to hand a sample (R132 to R136): the gains move at most 128 toward
their targets, the mix is saturated and takes its channel's place in the lane frame 512 ticks on, in which every other channel's
place stays as it was, or 0 when nothing was mixed for the frame before; no other lane frame changes. A value changed by the
clamp counts in the clip counter and sets CLIP. Other channels, and the rest of the part, are untouched. The last clause is the
data line of a lane: the 24 bits of the channel's sample, the most significant first, then 8 zeros, channel 2l in the left half
of the lane frame and 2l + 1 in the right. -/
def Obligations.ChannelMixesItsPeriod : Prop :=
  (∀ (s : State) (p : OutputPeriod) (c : Fin 8), s.lanes.period = some p → c ∈ p.channelsDue →
    p.dueSource (.primary c) = none → p.dueSource (.overlay c) = none →
    let ch := s.channel c
    let playing := ∃ sr, ch.overlaySrc = some sr
      ∧ ((s.stream sr.stream).state = .playing ∨ (s.stream sr.stream).state = .draining)
    let leaves := timeAfter p.edge 512
    let before : Vector Int 8 := match s.lanes.queued.find? (fun f => f.start == leaves) with
      | some f => f.samples
      | none => Vector.replicate 8 0
    ∃ (t : State) (targetP targetO : Nat), exec (.channelPeriod c) s = .next t.endEvent
      ∧ (ch.mute = true ∨ ch.forceMute = true → targetP = 0 ∧ targetO = 0)
      ∧ (ch.mute = false → ch.forceMute = false → playing → targetP = ch.gP * ch.duck / 16384 ∧ targetO = ch.gO)
      ∧ (ch.mute = false → ch.forceMute = false → ¬playing → targetP = ch.gP ∧ targetO = 0)
      ∧ (let eP := max (ch.eP - 128) (min (ch.eP + 128) targetP)
         let eO := max (ch.eO - 128) (min (ch.eO + 128) targetO)
         let m := (p.yP[c] * eP + p.yO[c] * eO).fdiv 16384
         let out := max (-8388608) (min 8388607 m)
         t.channel c = { ch with eP := eP, eO := eO, clip := if out = m then ch.clip else satInc ch.clip }
         ∧ t.lanes.queued.filter (fun f => f.start == leaves)
            = ⟨leaves, before.set c out⟩ :: (s.lanes.queued.filter (fun f => f.start == leaves)).tail
         ∧ (∀ code : PartCode, t.partSet code = (s.partSet code || (code == .clip && decide (out ≠ m)))))
      ∧ t.lanes.queued.filter (fun f => f.start != leaves) = s.lanes.queued.filter (fun f => f.start != leaves)
      ∧ t.lanes = { s.lanes with
          period := some { p with channelsDue := p.channelsDue.filter (fun x => x != c) }
          queued := t.lanes.queued }
      ∧ (∀ d : Fin 8, d ≠ c → t.channel d = s.channel d)
      ∧ t = { s with
          channels := t.channels, lanes := t.lanes
          du := { s.du with attention := t.du.attention, gathered := t.du.gathered } })
  ∧ ∀ (s : State) (l : Fin 4) (c : Fin 8) (j : Nat), j < 32 →
    let bit := (if s.lanes.rate = 96000 then 256 else 512) / 64
    let place := s.lc.toNat % (64 * bit) / bit
    (c.val = 2 * l.val ∧ place = j ∨ c.val = 2 * l.val + 1 ∧ place = 32 + j) →
    s.lnData l = (if j < 24 then (BitVec.ofInt 24 s.lanes.current.samples[c]).getLsbD (23 - j) else false)

/-! ## Directive items

Each item's row is a directive of that one item (log 3); `itemDone` and `itemRefused` say how it ends. -/

/-- While the node ID is 0 every item but ASSIGN_NODE and QUERY is refused UNASSIGNED, counted in ITEMS_UNASSIGNED (R163).
ASSIGN_NODE (R162, R179, R184): skipped and counted when the serial is another part's, with no reply; refused BAD_VALUE for a
node or a group out of range or a group given twice; otherwise node ID, groups and presence timer are replaced and nothing
else is touched. -/
def Obligations.UnassignedAndAssignNodeResult : Prop :=
  (∀ (h : DirHeader) (it : Item) (s : State), s.ident.node = 0 →
    (∀ serial node groups, it ≠ .assignNode serial node groups) → (∀ reqs, it ≠ .query reqs) →
    exec (itemRow h it) s = .next (itemRefused h .unassigned (s.bump .itemsUnassigned)))
  ∧ ∀ (h : DirHeader) (serial : BitVec 48) (node : NodeId) (groups : List NodeId) (s : State), groups.length ≤ 4 →
    (serial ≠ s.ident.serial → s.du.gathered = false →
      exec (.assignNode h serial node groups) s = .next (
        ((s.bump .directivesTaken).bump .itemsSkipped).bump .directivesCompleted))
    ∧ (serial = s.ident.serial →
        exec (.assignNode h serial node groups) s = .next (
          if 0xFF00 ≤ node.toNat ∨ (∃ g ∈ groups, ¬(0xFF00 ≤ g.toNat ∧ g.toNat ≤ 0xFFFE)) ∨ ¬groups.Nodup then
            itemRefused h .badValue s
          else itemDone h { s with ident := { s.ident with
            node := node
            groups := if node = 0 then [] else groups
            presenceTimer := if s.ident.node = 0 ∧ node ≠ 0 then none
              else if s.ident.node ≠ 0 ∧ node = 0 then some s.lc
              else s.ident.presenceTimer } }))

/-- SET_TIME_SOURCE (R3 to R5, R17, R18): a group or broadcast source is refused; a changed source or allowance restarts the unit,
flushing the anchored streams; an unchanged pair stores the timeouts, which apply at once to intervals already running: a gap
longer than the new timeout ends ACQUIRING, puts SETTLING and LOCKED in HOLDOVER, or loses house time when the new limit is
0, and a HOLDOVER that has reached the new limit loses house time, while one that has not stays, however old its last beat. -/
def Obligations.SetTimeSourceResult : Prop :=
  ∀ (h : DirHeader) (source : NodeId) (allowance : BitVec 32) (gap : Byte) (holdover : BitVec 16) (s : State),
    s.ident.node ≠ 0 →
    let al : Int := max (-8388608) (min 8388607 allowance.toInt)
    let gt : Nat := max 5 (min 100 gap.toNat) * 2457600
    let hl : Nat := min 600 holdover.toNat * 24576000
    let kept : Tlu := { s.tlu with gapTimeout := gt, holdoverLimit := hl }
    let gone : Tlu := { kept with
      timeState := .unlocked, window := [], windowNewest := none, mPrev := none, epoch := none, lastBeat := none
      holdoverStart := none, strikes := 0, lockCount := 0 }
    let flushes (u : State) : Prop :=
      u.relay = { s.relay with beatPending := false, timer := none }
        ∧ (∀ i : Fin 8, (s.stream i).running = true →
            (u.stream i).state = .listening ∧ Flushed (u.stream i) ∧ (u.stream i).codeSet .flushed = true)
        ∧ (∀ i : Fin 8, (s.stream i).running = false → u.stream i = s.stream i)
        ∧ u.port = s.port ∧ u.lc = s.lc ∧ u.ident = s.ident ∧ u.lines = s.lines ∧ u.lanes = s.lanes
        ∧ u.pending = s.pending
    let loses : Prop := ∃ u, exec (.setTimeSource h source allowance gap holdover) s = .next (itemDone h u)
      ∧ u.tlu = gone ∧ u.partSet .timeLost = true
      ∧ (∀ c : PartCounter, u.partCount c = if c = .timeLosses then satInc (s.partCount c) else s.partCount c)
      ∧ flushes u
    (0xFF00 ≤ source.toNat →
      exec (.setTimeSource h source allowance gap holdover) s = .next (itemRefused h .badValue s))
    ∧ (source.toNat < 0xFF00 → source = s.tlu.source → al = s.tlu.allowance →
        (∀ a q, s.tlu.lastBeat = some (a, q) → (s.lc - a).toNat ≤ gt) →
        (∀ start, s.tlu.holdoverStart = some start → (s.lc - start).toNat < hl) →
        exec (.setTimeSource h source allowance gap holdover) s = .next (itemDone h { s with tlu := kept }))
    ∧ (∀ (a : Time) (q : Seq), source.toNat < 0xFF00 → source = s.tlu.source → al = s.tlu.allowance →
        s.tlu.lastBeat = some (a, q) → gt < (s.lc - a).toNat →
        (s.tlu.timeState = .acquiring → exec (.setTimeSource h source allowance gap holdover) s
          = .next (itemDone h { s with tlu := { kept with
              timeState := .unlocked, window := [], windowNewest := none, epoch := none, lastBeat := none } }))
        ∧ (s.tlu.timeState = .settling ∨ s.tlu.timeState = .locked → hl ≠ 0 →
            exec (.setTimeSource h source allowance gap holdover) s = .next (itemDone h (({ s with
              tlu := { kept with timeState := .holdover, holdoverStart := some s.lc } }).bump .holdovers)))
        ∧ (s.tlu.timeState = .settling ∨ s.tlu.timeState = .locked → hl = 0 → loses))
    ∧ (∀ start : Time, source.toNat < 0xFF00 → source = s.tlu.source → al = s.tlu.allowance →
        s.tlu.timeState = .holdover → s.tlu.holdoverStart = some start → hl ≤ (s.lc - start).toNat → loses)
    ∧ (∀ start : Time, source.toNat < 0xFF00 → source = s.tlu.source → al = s.tlu.allowance →
        s.tlu.timeState = .holdover → s.tlu.holdoverStart = some start → (s.lc - start).toNat < hl →
        exec (.setTimeSource h source allowance gap holdover) s = .next (itemDone h { s with tlu := kept }))
    ∧ (source.toNat < 0xFF00 → (source ≠ s.tlu.source ∨ al ≠ s.tlu.allowance) →
        ∃ u, exec (.setTimeSource h source allowance gap holdover) s = .next (itemDone h u)
          ∧ u.tlu = { gone with source := source, allowance := al }
          ∧ u.partSet .timeRestart = true ∧ flushes u ∧ u.counters = s.counters)

/-- SET_REGEN (R155): 0 turns regeneration off, other values are clamped to 100 .. 1000 ms; a running timer restarts when the
interval changes, and a beat becomes pending when the conditions come to hold. SET_REPORTING, SET_RELAY_MARGIN and SET_STORE
(R71, R153, R166): destination 0 is refused BAD_VALUE, any other replaces the notice destination and the mask of fourteen
enables; a margin clamped to 0 .. 50 ms, and a low-water mark clamped to 1023 that sets STORE_LOW when it is above the free
count. -/
def Obligations.SettingsItemsResult : Prop :=
  (∀ (h : DirHeader) (ms : BitVec 16) (s : State), s.ident.node ≠ 0 → RegenTimed s →
    let new := if ms = 0 then 0 else max 100 (min 1000 ms.toNat) * 24576
    let able := s.tlu.hasEstimate = true ∧ s.relay.link = .up
    (able → new ≠ 0 → s.relay.interval ≠ 0 → exec (.setRegen h ms) s = .next (itemDone h { s with
        relay := { s.relay with
          interval := new
          timer := if new = s.relay.interval then s.relay.timer else some (timeAfter s.lc new) } }))
    ∧ (able → new ≠ 0 → s.relay.interval = 0 → exec (.setRegen h ms) s = .next (itemDone h { s with
        relay := { s.relay with interval := new, beatPending := true, timer := some (timeAfter s.lc new) } }))
    ∧ (¬(able ∧ new ≠ 0) → exec (.setRegen h ms) s = .next (itemDone h { s with
        relay := { s.relay with interval := new, beatPending := false, timer := none } })))
  ∧ ∀ (h : DirHeader) (s : State), s.ident.node ≠ 0 →
    (∀ (dest : NodeId) (mask : BitVec 16), exec (.setReporting h dest mask) s = .next (
      if dest = 0 then itemRefused h .badValue s
      else itemDone h { s with du := { s.du with noticeDest := dest, noticeMask := mask.setWidth 14 } }))
    ∧ (∀ ms : Byte, exec (.setRelayMargin h ms) s
      = .next (itemDone h { s with relay := { s.relay with margin := min 50 ms.toNat * 24576 } }))
    ∧ ∀ mark : BitVec 16, ∃ u, exec (.setStore h mark) s = .next (itemDone h u)
      ∧ u.pool = { s.pool with lowWater := min 1023 mark.toNat }
      ∧ (s.pool.free < min 1023 mark.toNat → u.partSet .storeLow = true)
      ∧ (¬s.pool.free < min 1023 mark.toNat → u.du = s.du)
      ∧ (∀ c : PartCode, c ≠ .storeLow → u.partSet c = s.partSet c)
      ∧ u = { s with pool := u.pool, du := { s.du with attention := u.du.attention, gathered := u.du.gathered } }

/-- LOAD_STREAM (R44, R45): the six tests in their order, then the record is LOADED with the clamped parameters, every slot
EMPTY and every optional field absent; a load from IDLE starts counters and attention afresh, a reload keeps them. No other
record is touched. -/
def Obligations.LoadStreamResult : Prop :=
  ∀ (h : DirHeader) (p : LoadParams) (s : State), s.ident.node ≠ 0 →
    (8 ≤ p.index.toNat → exec (.loadStream h p) s = .next (itemRefused h .badIndex s))
    ∧ ∀ i : Fin 8, p.index.toNat = i.val →
      let st := s.stream i
      let k := (p.n.toNat * p.channels.toNat + 127) / 128
      let own := if st.state = .idle then 0 else st.depth
      exec (.loadStream h p) s = .next (
        if st.state ≠ .idle ∧ st.state ≠ .loaded then itemRefused h .wrongState s
        else if ¬(p.key ≠ 0 ∧ p.rate.toNat ∈ [32000, 44100, 48000, 88200, 96000]
            ∧ 1 ≤ p.channels.toNat ∧ p.channels.toNat ≤ 8
            ∧ 16 ≤ p.n.toNat ∧ p.n.toNat ≤ 480 ∧ p.n.toNat * p.channels.toNat ≤ 480
            ∧ 4 ≤ p.depth.toNat ∧ p.depth.toNat ≤ 64
            ∧ 4 ≤ p.quota.toNat ∧ p.quota.toNat ≤ 1024 ∧ 2 * k ≤ p.quota.toNat
            ∧ p.g.toNat ≠ 1 ∧ p.g.toNat ≤ 8 ∧ p.g.toNat ≤ p.depth.toNat
            ∧ (p.flags.getLsbD 0 = true ∨ p.flags.getLsbD 1 = true)) then itemRefused h .badValue s
        else if ∃ j : Fin 8, j ≠ i ∧ (s.stream j).state ≠ .idle ∧ (s.stream j).key = p.key then
          itemRefused h .keyInUse s
        else if 256 - s.slotsReserved + own < p.depth.toNat then itemRefused h .noSlots s
        else if st.state = .loaded ∧ p.quota.toNat < s.pool.charged i then itemRefused h .wrongState s
        else itemDone h { s with streams := s.streams.set i { Stream.idle with
          state := .loaded, key := p.key, fs := p.rate.toNat, channels := p.channels.toNat, n := p.n.toNat
          depth := p.depth.toNat, quota := p.quota.toNat, g := p.g.toNat
          localPlay := p.flags.getLsbD 0, relay := p.flags.getLsbD 1
          prio := min 7 p.prio.toNat, tol := min 4095 p.tol.toNat
          horizon := max 10 (min 2000 p.horizon.toNat) * 24576
          ring := List.replicate p.depth.toNat Slot.vacant
          counters := if st.state = .idle then Vector.replicate 39 0 else st.counters
          attention := if st.state = .idle then 0 else st.attention } })

/-- OPEN_STREAM (R46): LOADED becomes LISTENING with no anchor and both runs 0; any other state, and a local-play stream in
STANDBY, is refused WRONG_STATE. CLOSE_STREAM (R47, R60): in LISTENING, PRIMED, PLAYING, DRAINING or ENDED the stream is
flushed and left LOADED, with its parameters, reservation, counters, attention set and relay entries as they were; in IDLE
and LOADED it is refused. An index above 7 is refused BAD_INDEX. -/
def Obligations.OpenAndCloseStreamResult : Prop :=
  ∀ (h : DirHeader) (index : Byte) (s : State), s.ident.node ≠ 0 →
    (8 ≤ index.toNat → exec (.openStream h index) s = .next (itemRefused h .badIndex s)
      ∧ exec (.closeStream h index) s = .next (itemRefused h .badIndex s))
    ∧ ∀ i : Fin 8, index.toNat = i.val →
      exec (.openStream h index) s = .next (
        if (s.stream i).state ≠ .loaded ∨ ((s.stream i).localPlay = true ∧ s.ident.mode = .standby) then
          itemRefused h .wrongState s
        else itemDone h { s with streams := s.streams.set i { s.stream i with
          state := .listening, anchor := none, mismatchRun := 0, missedRun := 0 } })
      ∧ ((s.stream i).state = .idle ∨ (s.stream i).state = .loaded →
        exec (.closeStream h index) s = .next (itemRefused h .wrongState s))
      ∧ ((s.stream i).state ≠ .idle → (s.stream i).state ≠ .loaded →
          ∃ u, exec (.closeStream h index) s = .next (itemDone h u)
            ∧ u.stream i = { s.stream i with
                state := .loaded, ring := (s.stream i).ring.map (fun _ => Slot.vacant), anchor := none
                pendingAnchor := none, breakSeq := none, secondBreak := none, endSeq := none, mismatchRun := 0
                missedRun := 0, holder := none, virt := .fresh }
            ∧ (∀ j : Fin 8, j ≠ i → u.stream j = s.stream j)
            ∧ u.requests = s.requests.filter (fun j => j != i)
            ∧ (∀ c : Fin 8, u.channel c = { s.channel c with
                primaryPos := if names (s.channel c).primarySrc i then .fresh else (s.channel c).primaryPos
                overlayPos := if names (s.channel c).overlaySrc i then .fresh else (s.channel c).overlayPos })
            ∧ u.pool = s.pool.release (((s.stream i).ring.filter (fun sl => sl.state != .empty)).flatMap (fun sl => sl.cells)
                ++ ((s.stream i).holder.map (fun x => x.cells)).getD [])
            ∧ u = { s with
                streams := u.streams, channels := u.channels, requests := u.requests, pool := u.pool })

/-- UNLOAD_STREAM (R48, R70): a LOADED record becomes IDLE with its counters and attention set kept (its parameters 0: log 31,
the model's choice); every cell it owned keeps its holders and its words and is owned by no stream, and its charge is 0; its
relay entries, the transmission among them, and the operation in flight are detached, and stay as they are otherwise. In any
other state it is refused. -/
def Obligations.UnloadStreamResult : Prop :=
  ∀ (h : DirHeader) (index : Byte) (s : State), s.ident.node ≠ 0 →
    (8 ≤ index.toNat → exec (.unloadStream h index) s = .next (itemRefused h .badIndex s))
    ∧ ∀ i : Fin 8, index.toNat = i.val →
      let free (o : Option (Fin 8)) : Option (Fin 8) := if o = some i then none else o
      ((s.stream i).state ≠ .loaded → exec (.unloadStream h index) s = .next (itemRefused h .wrongState s))
      ∧ ((s.stream i).state = .loaded →
          ∃ u, exec (.unloadStream h index) s = .next (itemDone h u)
            ∧ u.stream i = { Stream.idle with counters := (s.stream i).counters, attention := (s.stream i).attention }
            ∧ (∀ j : Fin 8, j ≠ i → u.stream j = s.stream j ∧ u.pool.charged j = s.pool.charged j)
            ∧ u.pool = { s.pool with held := s.pool.held.map (fun c => { c with owner := free c.owner }) }
            ∧ u.pool.charged i = 0 ∧ u.pool.free = s.pool.free ∧ (∀ id, u.pool.words id = s.pool.words id)
            ∧ (∀ q : Fin 4, u.relay.queue q = { s.relay.queue q with
                entries := (s.relay.queue q).entries.map (fun e => { e with stream := free e.stream }) })
            ∧ u.relay.tx = s.relay.tx.map (fun x =>
                { x with entry := x.entry.map (fun e => { e with stream := free e.stream }) })
            ∧ u.relay = { s.relay with queues := u.relay.queues, tx := u.relay.tx }
            ∧ u.recovery = s.recovery.map (fun op => { op with stream := free op.stream })
            ∧ u = { s with streams := u.streams, pool := u.pool, relay := u.relay, recovery := u.recovery })

/-- MAP_CHANNEL (R107, R128): indices out of range are refused BAD_INDEX; otherwise the channel's sources and clamped levels are
replaced, each reader keeps its place when its stream stays the same and starts afresh otherwise, and the flags, the
effective gains, the clip counter and every other channel are as they were. An output period that is open is untouched: the
readers still to be taken in it stay so, each with its source of the edge (R134; log 12). -/
def Obligations.MapChannelResult : Prop :=
  ∀ (h : DirHeader) (chan : Byte) (primary overlay : SourceBytes) (gP gO duck : BitVec 16) (s : State),
    s.ident.node ≠ 0 →
    let bad (b : SourceBytes) := b.stream ≠ 0xFF ∧ (8 ≤ b.stream.toNat ∨ 8 ≤ b.chan.toNat)
    (8 ≤ chan.toNat ∨ bad primary ∨ bad overlay →
      exec (.mapChannel h chan primary overlay gP gO duck) s = .next (itemRefused h .badIndex s))
    ∧ ∀ (c : Fin 8) (pr ov : Option Source), chan.toNat = c.val →
      (pr = none ∧ primary.stream = 0xFF
        ∨ ∃ x, pr = some x ∧ primary.stream.toNat = x.stream.val ∧ primary.chan.toNat = x.chan.val) →
      (ov = none ∧ overlay.stream = 0xFF
        ∨ ∃ x, ov = some x ∧ overlay.stream.toNat = x.stream.val ∧ overlay.chan.toNat = x.chan.val) →
      let keeps (old new : Option Source) := ∃ a b, old = some a ∧ new = some b ∧ a.stream = b.stream
      ∃ u, exec (.mapChannel h chan primary overlay gP gO duck) s = .next (itemDone h u)
        ∧ (∃ pp op, u.channel c = { s.channel c with
              primarySrc := pr, overlaySrc := ov, gP := min 32767 gP.toNat, gO := min 32767 gO.toNat
              duck := min 16384 duck.toNat, primaryPos := pp, overlayPos := op }
            ∧ (keeps (s.channel c).primarySrc pr → pp = (s.channel c).primaryPos)
            ∧ (¬keeps (s.channel c).primarySrc pr → pp = .fresh)
            ∧ (keeps (s.channel c).overlaySrc ov → op = (s.channel c).overlayPos)
            ∧ (¬keeps (s.channel c).overlaySrc ov → op = .fresh))
        ∧ (∀ d : Fin 8, d ≠ c → u.channel d = s.channel d)
        ∧ (∀ i : Fin 8, u.stream i = { s.stream i with virt := (u.stream i).virt }
            ∧ (s.standsIn i = u.standsIn i → (u.stream i).virt = (s.stream i).virt)
            ∧ (s.standsIn i ≠ u.standsIn i → (u.stream i).virt = .fresh))
        ∧ u = { s with channels := u.channels, streams := u.streams }

/-- SET_GAIN and SET_MUTE (R129, R130), in either mode: each channel in the mask takes each value that is not 0xFFFF, clamped,
or the mute setting; the force-mute flag, the sources, the readers, the effective gains and every other channel are as they
were. -/
def Obligations.SetGainAndSetMuteResult : Prop :=
  ∀ (h : DirHeader) (mask : BitVec 8) (s : State), s.ident.node ≠ 0 →
    (∀ gP gO duck : BitVec 16,
      ∃ u, exec (.setGain h mask gP gO duck) s = .next (itemDone h u)
        ∧ (∀ c : Fin 8, u.channel c = if mask.getLsbD c.val = true then { s.channel c with
            gP := if gP = 0xFFFF then (s.channel c).gP else min 32767 gP.toNat
            gO := if gO = 0xFFFF then (s.channel c).gO else min 32767 gO.toNat
            duck := if duck = 0xFFFF then (s.channel c).duck else min 16384 duck.toNat } else s.channel c)
        ∧ u = { s with channels := u.channels })
    ∧ ∀ setting : Byte,
      ∃ u, exec (.setMute h mask setting) s = .next (itemDone h u)
        ∧ (∀ c : Fin 8, u.channel c = if mask.getLsbD c.val = true then
            { s.channel c with mute := decide (setting ≠ 0) } else s.channel c)
        ∧ u = { s with channels := u.channels }

/-- SET_LANES and LANE_RATE_CHANGE (R139): refused WRONG_STATE in ACTIVE and BAD_VALUE for another rate; otherwise the clamped
latencies are replaced at once, and a changed rate takes effect at the first LC after the event that is a multiple of 512, or
when the row is taken after it (log 26, the model's choice). That, with a change already waiting, the rate is compared with the
one in force, the same rate withdraws the change and another sets it anew is the model's choice too (log 40), and so is that
ACTIVE is entered with a change waiting, which then takes effect in ACTIVE (log 45). SET_MODE (R137, R138, R187): ACTIVE from
STANDBY zeroes every channel's effective gains; STANDBY from ACTIVE, when no local-play stream is LISTENING, PRIMED, PLAYING or
DRAINING, ends output periods and discards what was mixed; the mode in force changes nothing; any other value is refused
BAD_VALUE. -/
def Obligations.LaneAndModeItemsResult : Prop :=
  (∀ (h : DirHeader) (rate l0 l1 l2 l3 : BitVec 32) (s : State),
    (s.ident.node ≠ 0 → exec (.setLanes h rate l0 l1 l2 l3) s = .next (
      if s.ident.mode = .active then itemRefused h .wrongState s
      else if rate.toNat ≠ 48000 ∧ rate.toNat ≠ 96000 then itemRefused h .badValue s
      else itemDone h { s with lanes := { s.lanes with
        latency := #v[min 491520 l0.toNat, min 491520 l1.toNat, min 491520 l2.toNat, min 491520 l3.toNat]
        rateChange := if rate.toNat = s.lanes.rate then none
          else some (rate.toNat, s.lc + BitVec.ofNat 48 (512 - s.lc.toNat % 512)) } }))
    ∧ ∀ (r : Nat) (due : Time), s.lanes.rateChange = some (r, due) → 0 ≤ signed48 s.lc due →
      exec .laneRateChange s = .next { s with lanes := { s.lanes with rate := r, rateChange := none } })
  ∧ ∀ (h : DirHeader) (mode : Byte) (s : State), s.ident.node ≠ 0 →
    (mode ≠ 0 → mode ≠ 1 → exec (.setMode h mode) s = .next (itemRefused h .badValue s))
    ∧ (mode = 1 ∧ s.ident.mode = .active ∨ mode = 0 ∧ s.ident.mode = .standby →
        exec (.setMode h mode) s = .next (itemDone h s))
    ∧ (mode = 1 → s.ident.mode = .standby →
        ∃ u, exec (.setMode h mode) s = .next (itemDone h u)
          ∧ (∀ c : Fin 8, u.channel c = { s.channel c with eP := 0, eO := 0 })
          ∧ u = { s with channels := u.channels, ident := { s.ident with mode := .active } })
    ∧ (mode = 0 → s.ident.mode = .active → exec (.setMode h mode) s = .next (
        if ∃ i : Fin 8, (s.stream i).localPlay = true ∧ ((s.stream i).state = .listening ∨ (s.stream i).state = .primed
            ∨ (s.stream i).state = .playing ∨ (s.stream i).state = .draining) then itemRefused h .wrongState s
        else itemDone h { s with
          ident := { s.ident with mode := .standby }, lanes := { s.lanes with queued := [], period := none } }))

/-- SET_CLASS_MAP, SET_SOURCE_ENTRY and SET_PRIORITY_WEIGHTS (R146): every value clamped to 0 .. 7; a source index above 15, a
group or broadcast node and a node another entry holds are refused; node 0 makes the entry absent. -/
def Obligations.RelayTablesResult : Prop :=
  ∀ (h : DirHeader) (s : State), s.ident.node ≠ 0 →
    (∀ prios : Vector Byte 8, ∃ u, exec (.setClassMap h prios) s = .next (itemDone h u)
      ∧ (∀ c : Fin 8, u.relay.classMap[c] = min 7 prios[c].toNat)
      ∧ u = { s with relay := { s.relay with classMap := u.relay.classMap } })
    ∧ (∀ a b c : Byte, exec (.setPriorityWeights h a b c) s = .next (itemDone h { s with
        relay := { s.relay with wStream := min 7 a.toNat, wClass := min 7 b.toNat, wSource := min 7 c.toNat } }))
    ∧ ∀ (index : Byte) (node : NodeId) (prio : Byte),
      (16 ≤ index.toNat → exec (.setSourceEntry h index node prio) s = .next (itemRefused h .badIndex s))
      ∧ ∀ i : Fin 16, index.toNat = i.val → exec (.setSourceEntry h index node prio) s = .next (
        if 0xFF00 ≤ node.toNat then itemRefused h .badValue s
        else if node ≠ 0 ∧ (∃ j : Fin 16, j ≠ i ∧ (s.relay.sources[j]).map Prod.fst = some node) then
          itemRefused h .duplicateSource s
        else itemDone h { s with relay := { s.relay with
          sources := s.relay.sources.set i (if node = 0 then none else some (node, min 7 prio.toNat)) } })

/-- SET_QUEUES (R147): a count of 0 or above 4, a map entry not below it, or a type above 1 is refused BAD_VALUE; otherwise
count, map, types and clamped weights are replaced, a queue whose type changes has its deficit set to 0, and no entry and
not the pointer moves. -/
def Obligations.SetQueuesResult : Prop :=
  ∀ (h : DirHeader) (p : QueueParams) (s : State), s.ident.node ≠ 0 →
    let ok := 1 ≤ p.count.toNat ∧ p.count.toNat ≤ 4 ∧ (∀ b ∈ p.map.toList, b.toNat < p.count.toNat)
      ∧ (∀ b ∈ p.types.toList, b.toNat ≤ 1)
    (¬ok → exec (.setQueues h p) s = .next (itemRefused h .badValue s))
    ∧ (ok → ∃ u, exec (.setQueues h p) s = .next (itemDone h u)
        ∧ u.relay.count = p.count.toNat
        ∧ (∀ x : Fin 8, (u.relay.map[x]).val = p.map[x].toNat)
        ∧ (∀ q : Fin 4, u.relay.queue q = { s.relay.queue q with
            weighted := decide (p.types[q] = 1)
            weight := max 1 (min 127 p.weights[q].toNat)
            deficit := if decide (p.types[q] = 1) = (s.relay.queue q).weighted then (s.relay.queue q).deficit else 0 })
        ∧ u = { s with relay := { s.relay with
            count := u.relay.count, map := u.relay.map, queues := u.relay.queues } })

/-- SET_LINES (R190, R192): a mode other than EVENT and MATCH is refused BAD_VALUE; EVENT mode replaces the configuration and
ends the match; MATCH mode evaluates the match at once, and a match that does not come to hold changes no more than that. A
match that comes to hold is a detection: it captures the unmasked pattern, counts, sets LINE, sets force-mute flags and, with
wake enabled, enters ACTIVE (R191). -/
def Obligations.SetLinesResult : Prop :=
  ∀ (h : DirHeader) (mask mode compare forceMask wake : Byte) (s : State), s.ident.node ≠ 0 →
    let l : LineMonitor := { s.lines with
      mask := mask.setWidth 4, compare := compare.setWidth 4, forceMask := forceMask, wake := decide (wake ≠ 0) }
    let matches_ := mask.setWidth 4 ≠ (0 : BitVec 4) ∧ ∀ n : Fin 4, mask.getLsbD n.val = true →
      s.lines.accepted[n] = some (compare.getLsbD n.val)
    (mode ≠ 0 → mode ≠ 1 →
      exec (.setLines h mask mode compare forceMask wake) s = .next (itemRefused h .badValue s))
    ∧ (mode = 0 → exec (.setLines h mask mode compare forceMask wake) s
        = .next (itemDone h { s with lines := { l with detect := .event, matchHolds := false } }))
    ∧ (mode = 1 → ¬matches_ → exec (.setLines h mask mode compare forceMask wake) s
        = .next (itemDone h { s with lines := { l with detect := .pattern, matchHolds := false } }))
    ∧ (mode = 1 → matches_ → s.lines.matchHolds = true → exec (.setLines h mask mode compare forceMask wake) s
        = .next (itemDone h { s with lines := { l with detect := .pattern, matchHolds := true } }))
    ∧ (mode = 1 → matches_ → s.lines.matchHolds = false →
        ∃ u, exec (.setLines h mask mode compare forceMask wake) s = .next (itemDone h u)
          ∧ DetectionLeaves { l with detect := .pattern, matchHolds := true } s u)

/-- CLEAR_ATTENTION (R175, R176): a stream index above 7 other than 0xFF is refused BAD_INDEX and clears nothing; otherwise
every part code named is cleared unless its condition holds, every stream code named is cleared in the streams named, and
all force-mute flags clear exactly when LINE goes from set to clear (R131). -/
def Obligations.ClearAttentionResult : Prop :=
  ∀ (h : DirHeader) (partMask : BitVec 16) (index streamMask : Byte) (s : State), s.ident.node ≠ 0 →
    (8 ≤ index.toNat → index ≠ 0xFF →
      exec (.clearAttention h partMask index streamMask) s = .next (itemRefused h .badIndex s))
    ∧ (index.toNat < 8 ∨ index = 0xFF →
        ∃ u, exec (.clearAttention h partMask index streamMask) s = .next (itemDone h u)
          ∧ (∀ c : PartCode, u.partSet c = (s.partSet c && !(partMask.getLsbD c.bit && !(
                (c == .timeLost && s.tlu.timeState == .unlocked)
                || (c == .storeLow && decide (s.pool.free < s.pool.lowWater))
                || (c == .line && s.lines.detect == .pattern && s.lines.matchHolds)))))
          ∧ (∀ (i : Fin 8) (c : StreamCode), (u.stream i).codeSet c = ((s.stream i).codeSet c
              && !(streamMask.getLsbD c.bit && (index == 0xFF || index.toNat == i.val))))
          ∧ (∀ i : Fin 8, u.stream i = { s.stream i with attention := (u.stream i).attention })
          ∧ (∀ c : Fin 8, u.channel c = { s.channel c with
              forceMute := (s.channel c).forceMute && !(s.partSet .line && !u.partSet .line) })
          ∧ u = { s with
              du := { s.du with attention := u.du.attention }, streams := u.streams, channels := u.channels })

/-- QUERY (R167, R168, R171): the first request in the order of the list that fails its check refuses the item, by its type with
BAD_VALUE and by its argument with BAD_INDEX (log 35: the model's order). With no reply wanted it is applied and forms no
record. With a reply wanted the records are formed in order, each field where R196's table puts it (RecordLayout, with the
choices of logs 16 to 20 and 41), of the part as the row leaves it: DIRECTIVES_TAKEN has counted (log 3). They are placed while
the fixed bytes and the records stay within 1440 bytes; the first that does not fit sets TRUNCATED (the flags byte's other bits
are 0: log 20), and it and every later one
are not formed. Forming one changes nothing but the least free count, which STORE_STATUS restarts (R89). A reply placed takes
from each counter of the scopes its records cleared what they gave, so what has counted since stays (log 36: the reply's own
count is among it). A reply that finds eight frames waiting is dropped and counted, sets REPORT_DROP, and reduces no counter. -/
def Obligations.QueryResult : Prop :=
  ∀ (h : DirHeader) (reqs : List QueryRequest) (s : State), reqs ≠ [] → reqs.length ≤ 85 →
    (∀ (before after : List QueryRequest) (r : QueryRequest), reqs = before ++ r :: after →
      (∀ b ∈ before, RequestPasses b) →
      (r.type.toNat = 0 ∨ 8 < r.type.toNat → exec (.query h reqs) s = .next (itemRefused h .badValue s))
      ∧ (r.type = 3 ∧ 8 ≤ r.arg.toNat ∨ r.type = 7 ∧ 8 ≤ r.arg.toNat ∧ r.arg ≠ 0xFF →
        exec (.query h reqs) s = .next (itemRefused h .badIndex s)))
    ∧ ((∀ r ∈ reqs, RequestPasses r) → ∃ xs : List Request, List.Forall₂ (fun r x => checkRequest r = .ok x) reqs xs
      ∧ (h.replyWanted = false → exec (.query h reqs) s = .next (itemDone h s))
      ∧ (h.replyWanted = true → s.du.gathered = false →
        ∃ (t : State) (bodies : List (List Byte)), exec (.query h reqs) s = .next t
          ∧ (let n := bodies.length
             let used (m : Nat) : Nat := 4 + ((bodies.take m).map (fun b => 3 + b.length)).sum
             let formed (m : Nat) : State := { s.bump .directivesTaken with
               pool := { s.pool with leastFree := if .store ∈ xs.take m then s.pool.free else s.pool.leastFree } }
             let payload : List Byte := [0, 0xFF, 1, if n < xs.length then 1 else 0]
               ++ (reqs.zip bodies).flatMap (fun rb => rb.1.type :: leBytes 2 rb.2.length ++ rb.2)
             let clears (sc : Scope) : Nat := (xs.take n).count (.counters sc true)
             n ≤ xs.length ∧ used n ≤ 1440
             ∧ (∀ m x body, xs[m]? = some x → bodies[m]? = some body → RecordLayout (formed m) x body)
             ∧ (∀ x body, xs[n]? = some x → RecordLayout (formed n) x body → 1440 < used n + (3 + body.length))
             ∧ (s.du.reportQueue.length < 8 →
               t.du = { s.du with reportQueue := s.du.reportQueue ++ [closed (
                   [0x15, h.cls.setWidth 8] ++ leBytes 2 h.source.toNat ++ leBytes 2 s.ident.node.toNat
                     ++ leBytes 2 h.tag.toNat ++ leBytes 6 0 ++ leBytes 2 payload.length ++ payload)] }
               ∧ (∀ c : PartCounter, t.partCount c
                   = (if c = .directivesTaken ∨ c = .itemsApplied ∨ c = .directivesCompleted ∨ c = .repliesQueued then
                       satInc (s.partCount c)
                     else s.partCount c) - clears .part * (s.bump .directivesTaken).partCount c)
               ∧ (∀ c : Fin 8, t.channel c = { s.channel c with
                   clip := (s.channel c).clip - clears .part * (s.channel c).clip })
               ∧ (∀ (i : Fin 8) (c : StreamCounter),
                   (t.stream i).count c = (s.stream i).count c - clears (.stream i) * (s.stream i).count c)
               ∧ ∀ i : Fin 8, t.stream i = { s.stream i with counters := (t.stream i).counters })
             ∧ (8 ≤ s.du.reportQueue.length →
               t.partSet .reportDrop = true ∧ (∀ c : PartCode, c ≠ .reportDrop → t.partSet c = s.partSet c)
               ∧ t.du = { s.du with attention := t.du.attention }
               ∧ (∀ c : PartCounter, t.partCount c
                   = if c = .directivesTaken ∨ c = .itemsApplied ∨ c = .directivesCompleted ∨ c = .reportDrop then
                       satInc (s.partCount c)
                     else s.partCount c)
               ∧ t.channels = s.channels ∧ t.streams = s.streams)
             ∧ t = { formed n with du := t.du, counters := t.counters, channels := t.channels, streams := t.streams })))

/-- RESET (R169, R183): every block takes its values after a DIRECTED reset, with node ID, groups and the directed resets kept
and increased, and the reply, when wanted, is the first frame of the emptied report queue; that it counts once in REPLIES_QUEUED
is the model's reading (log 15). The model's choices too are the 0 in the unused bits of its flags byte (log 20), that the
level of SAT_DET and the commands waiting are kept (log 8, 5), that the first sampling, due at the first reference
cycle, is due at LC 0, and the mark that this cycle is still to come (log 7), and the values in `State.afterReset` of no frame
handed on (log 4), of the cycles the link has been UP (log 24), of the origin of the satellite line's cells (log 25), of no code
gathered (log 28) and of an IDLE record's parameters (log 31). -/
def Obligations.DirectedResetResult : Prop :=
  ∀ (h : DirHeader) (s : State), s.ident.node ≠ 0 →
    let reply := closed ([0x15, h.cls.setWidth 8] ++ leBytes 2 h.source.toNat ++ leBytes 2 s.ident.node.toNat
      ++ leBytes 2 h.tag.toNat ++ leBytes 6 0 ++ leBytes 2 4 ++ [0, 0xFF, 1, 0])
    let clean := State.afterReset { s.ident with
      resetCause := .directed
      directedResets := if s.ident.directedResets < 65535 then s.ident.directedResets + 1 else s.ident.directedResets
      presenceTimer := none
      mode := .standby } s.relay.satDet s.pending
    (h.replyWanted = false → exec (.reset h) s = .next clean)
    ∧ (h.replyWanted = true → exec (.reset h) s
        = .next (({ clean with du := { clean.du with reportQueue := [reply] } }).bump .repliesQueued))

/-- The end of an event and of a directive (R162, R170, R172, R173, R177, R178, R197). An event in which a code was gathered
ends with one ATTENTION notice of the sets as they stand, 0 in the bits that no code uses (log 20, the model's choice): placed
and counted in NOTICES_QUEUED, or, with eight frames waiting, dropped and counted with REPORT_DROP set and nothing more
gathered; the notice count advances either way. With none gathered nothing changes. A directive that ends is counted as
completed or failed; a reply that is wanted joins the tail of the report queue with its header and four fixed bytes, 0 in the
unused bits of its flags byte (log 20 too), and counts in REPLIES_QUEUED, or is dropped in the same way; the notice of the event
follows. The last clause is a whole event that gathers: an INTAKE_FULL refusal with INTAKE_DROP enabled (R27). -/
def Obligations.DirectiveEnd : Prop :=
  (∀ s : State,
    let timeCode : Byte := match s.tlu.timeState with
      | .unlocked => 0
      | .acquiring => 1
      | .settling => 2
      | .locked => 3
      | .holdover => 4
    let notice := closed ([0x16, 7] ++ leBytes 2 s.du.noticeDest.toNat ++ leBytes 2 s.ident.node.toNat
      ++ leBytes 2 s.du.noticeCount.toNat ++ leBytes 6 0 ++ leBytes 2 12 ++ [2] ++ leBytes 2 s.du.attention.toNat
      ++ (List.finRange 8).map (fun i => (s.stream i).attention.setWidth 8)
      ++ [timeCode])
    let formed : DirectiveUnit := { s.du with gathered := false, noticeCount := s.du.noticeCount + 1 }
    (s.du.gathered = false → s.endEvent = s)
    ∧ (s.du.gathered = true → s.du.reportQueue.length < 8 → s.endEvent
        = ({ s with du := { formed with reportQueue := s.du.reportQueue ++ [notice] } }).bump .noticesQueued)
    ∧ (s.du.gathered = true → 8 ≤ s.du.reportQueue.length →
        (∀ c : PartCode, s.endEvent.partSet c = (s.partSet c || c == .reportDrop))
        ∧ s.endEvent = ({ s with du := { formed with attention := s.endEvent.du.attention } }).bump .reportDrop))
  ∧ (∀ (h : DirHeader) (r : ResultCode) (failing : Option Nat) (applied : Nat) (s : State),
    let s1 := s.bump (if failing = none then .directivesCompleted else .directivesFailed)
    let reply := closed ([0x15, h.cls.setWidth 8] ++ leBytes 2 h.source.toNat ++ leBytes 2 s.ident.node.toNat
      ++ leBytes 2 h.tag.toNat ++ leBytes 6 0 ++ leBytes 2 4
      ++ [BitVec.ofNat 8 r.code, BitVec.ofNat 8 (failing.getD 255), BitVec.ofNat 8 applied, 0])
    (h.replyWanted = false → directiveEnd h r failing applied s = s1.endEvent)
    ∧ (h.replyWanted = true → s.du.reportQueue.length < 8 → directiveEnd h r failing applied s
        = (({ s1 with du := { s.du with reportQueue := s.du.reportQueue ++ [reply] } }).bump .repliesQueued).endEvent)
    ∧ (h.replyWanted = true → 8 ≤ s.du.reportQueue.length →
        ∃ t : State, directiveEnd h r failing applied s = t.endEvent
          ∧ (∀ c : PartCode, t.partSet c = (s.partSet c || c == .reportDrop))
          ∧ t = ({ s1 with du := { s.du with attention := t.du.attention } }).bump .reportDrop))
  ∧ ∀ (s : State) (a : Time), s.port.select = .opening a → 4 ≤ s.port.intake.length → s.ident.node ≠ 0 →
    s.du.noticeMask.getLsbD 8 = true → s.partSet .intakeDrop = false →
    exec .writeSelect s = .next ((({ s with
      port := { s.port with select := .refused }
      du := { s.du with attention := s.du.attention ||| 0x100, gathered := true } }).bump .framesIn).bump
        .refusedIntakeFull).endEvent

/-- DIRECTIVE_TAKEN (R161, R162). A directive of no items completes with no reply. A directive of one item is that item's row,
which counts DIRECTIVES_TAKEN as Dispatch has counted the directive (log 3, the model's choice). Items other than ASSIGN_NODE,
QUERY and RESET are applied strictly in order, each counted as it takes effect (log 34), each on what the ones before it left:
when all are applied the directive completes; the first that is refused ends it, with its own index and result and nothing
undone or read after it; and so does the first that fails a test among 1 to 4 of R161 (BAD_LENGTH for a missing code or
length, for a body that runs over the end and for a length the code does not permit, BAD_ITEM for an unknown code), even as
the first item. -/
def Obligations.DirectiveTakenResult : Prop :=
  ∀ (s : State) (f : InFrame) (rest : List InFrame), s.port.intake = f :: rest → s.port.handed = [.directives] →
    let h : DirHeader := ⟨frameClass f.bytes, frameReplyWanted f.bytes, frameSource f.bytes, frameSeq f.bytes⟩
    let plain (it : Item) : Prop := itemLengthOk it = true ∧ it ≠ .reset
      ∧ (∀ serial node groups, it ≠ .assignNode serial node groups) ∧ ∀ reqs, it ≠ .query reqs
    let inOrder (its : List Item) : Except ResultCode State :=
      its.foldlM (fun x it => (applyItem it x).map (State.bump .itemsApplied)) (headTaken s)
    (framePayload f.bytes = [] ∨ (framePayload f.bytes).head? = some 0 → s.du.gathered = false →
      exec .directiveTaken s = .next ((headTaken s).bump .directivesCompleted))
    ∧ (∀ it : Item, itemLengthOk it = true → framePayload f.bytes = encodeItems [it] →
        exec .directiveTaken (s.bump .directivesTaken) = exec (itemRow h it) (headTaken s))
    ∧ (∀ (its : List Item) (s1 : State), its ≠ [] → its.length ≤ 255 → (∀ it ∈ its, plain it) → s.ident.node ≠ 0 →
        framePayload f.bytes = encodeItems its → inOrder its = .ok s1 →
        exec .directiveTaken s = .next (directiveEnd h .ok none its.length s1))
    ∧ (∀ (its more : List Item) (it : Item) (s1 : State) (r : ResultCode), its.length + 1 + more.length ≤ 255 →
        (∀ x ∈ its, plain x) → plain it → s.ident.node ≠ 0 → framePayload f.bytes = encodeItems (its ++ it :: more) →
        inOrder its = .ok s1 → applyItem it s1 = .error r →
        exec .directiveTaken s = .next (directiveEnd h r (some its.length) its.length s1))
    ∧ (∀ (its : List Item) (n : Nat) (tail : List Byte) (s1 : State) (r : ResultCode), its.length < n → n ≤ 255 →
        (∀ x ∈ its, plain x) → (its ≠ [] → s.ident.node ≠ 0) →
        framePayload f.bytes = BitVec.ofNat 8 n :: (its.flatMap encodeItem ++ tail) → ItemFails tail r →
        inOrder its = .ok s1 →
        exec .directiveTaken s = .next (directiveEnd h r (some its.length) its.length s1))

/-! ## Relay and the satellite link -/

/-- The priority decision (R145): a source of priority is in when its weight is not 0 and it gives a priority; the one of
greatest weight decides, the stream before the class and the class before the source at equal weights; with none in, the
priority is 0. The queue map turns the priority into a queue. The source gives the priority of the present entry of the source
table whose node is the frame's source node, the first where several are, and none where none is. -/
def Obligations.PriorityDecision : Prop :=
  ∀ (r : Relay) (stream : Option (Fin 8)) (cls : BitVec 3) (node : NodeId),
    let source := r.sourcePriority node
    (∀ (j : Fin 16) (p : Nat), r.sources[j] = some (node, p) → (∀ k < j, ∀ p', r.sources[k] ≠ some (node, p')) →
      source = some p)
    ∧ ((∀ (j : Fin 16) (p : Nat), r.sources[j] ≠ some (node, p)) → source = none)
    ∧ (∀ p : Fin 8, stream = some p → r.wStream ≠ 0 → r.wClass ≤ r.wStream → (source = none ∨ r.wSource ≤ r.wStream) →
      r.queueFor (stream.map Fin.val) cls node = r.map[p])
    ∧ (∀ p : Fin 8, r.classMap.toList[cls.toNat]? = some p.val → r.wClass ≠ 0 →
      (stream = none ∨ r.wStream < r.wClass) → (source = none ∨ r.wSource ≤ r.wClass) →
      r.queueFor (stream.map Fin.val) cls node = r.map[p])
    ∧ (∀ p : Fin 8, source = some p.val → r.wClass < r.wSource → (stream = none ∨ r.wStream < r.wSource) →
      r.queueFor (stream.map Fin.val) cls node = r.map[p])
    ∧ ((stream = none ∨ r.wStream = 0) → r.wClass = 0 → (source = none ∨ r.wSource = 0) →
      r.queueFor (stream.map Fin.val) cls node = r.map[(0 : Fin 8)])

/-- DIRECTIVE_RELAY_COPY (R36, R86, R148): declined and counted while the link is not UP; dropped, counted and RELAY_DROP set
when the queue holds 32 entries or the pool lacks ⌈L / 512⌉ cells; otherwise an entry of those cells joins the tail of its
queue, and the frame rebuilt from the cells is the frame that was taken. No cell that was held changes. -/
def Obligations.RelayCopyResult : Prop :=
  ∀ (s : State) (f : InFrame) (rest : List InFrame) (more : List Consumer), s.port.intake = f :: rest →
    s.port.handed = .relay :: more → s.du.gathered = false →
    let s1 := { s with port := if more = [] then (headTaken s).port else { s.port with handed := more } }
    let q := s.relay.queueFor none (frameClass f.bytes) (frameSource f.bytes)
    let k := (f.bytes.length + 511) / 512
    (s.relay.link ≠ .up → exec .directiveRelayCopy s = .next (s1.bump .relayLinkDown))
    ∧ (s.relay.link = .up → (32 ≤ (s.relay.queue q).entries.length ∨ s.pool.free < k) →
        ∃ t, exec .directiveRelayCopy s = .next t
          ∧ t.partSet .relayDrop = true ∧ t.partCount .relayDrop = satInc (s.partCount .relayDrop)
          ∧ t = { s1 with du := t.du, counters := t.counters })
    ∧ (s.relay.link = .up → (s.relay.queue q).entries.length < 32 → k ≤ s.pool.free → PoolFormed s →
        4 ≤ f.bytes.length →
        f.bytes.drop (f.bytes.length - 4) = leBytes 4 (crc32 (f.bytes.take (f.bytes.length - 4))).toNat →
        ∃ t cells, exec .directiveRelayCopy s = .next t
          ∧ cells.length = k
          ∧ t.relay.queue q = { s.relay.queue q with
              entries := (s.relay.queue q).entries ++ [⟨.directive, none, [], 0, f.bytes.length, cells⟩] }
          ∧ (∀ q' : Fin 4, q' ≠ q → t.relay.queue q' = s.relay.queue q')
          ∧ t.pool.free + k = s.pool.free ∧ (∀ c ∈ s.pool.held, c ∈ t.pool.held)
          ∧ t.pool.entryFrame ⟨.directive, none, [], 0, f.bytes.length, cells⟩ = f.bytes
          ∧ t.partCount .relayCopies = satInc (s.partCount .relayCopies)
          ∧ t = { s1 with
              relay := { s.relay with queues := t.relay.queues }, pool := t.pool, du := t.du, counters := t.counters })

/-- SAT_DET_RISE, QUALIFICATION_EXPIRY (at or after its instant: log 26, the model's choice) and SAT_DET_FALL (R149, R150,
R155): a rise from DOWN begins a qualification of 24,576 ticks, whose end makes the link UP and counts LINK_UPS; a fall makes it
DOWN. The cycles UP count from 0 there (log 24), since no frame whose reception began before it is received (R156). Leaving UP
discards every entry and the transmission, releases their cells, sets every deficit to 0, ends regeneration, and counts; the
tables and the pointer stay. -/
def Obligations.LinkChanges : Prop :=
  ∀ s : State,
    (s.relay.link = .down → exec .satDetRise s = .next { s with relay := { s.relay with
      satDet := true, link := .qualifying (timeAfter s.lc 24576) } })
    ∧ (s.relay.link ≠ .down → exec .satDetRise s = .next { s with relay := { s.relay with satDet := true } })
    ∧ (∀ due : Time, s.relay.link = .qualifying due →
        exec .satDetFall s = .next { s with relay := { s.relay with satDet := false, link := .down } }
        ∧ (0 ≤ signed48 s.lc due → s.relay.timer = none → exec .qualificationExpiry s = .next (
            if s.tlu.hasEstimate = true ∧ s.relay.interval ≠ 0 then
              ({ s with relay := { s.relay with
                  link := .up, upFor := 0, beatPending := true
                  timer := some (timeAfter s.lc s.relay.interval) } }).bump .linkUps
            else
              ({ s with relay := { s.relay with
                  link := .up, upFor := 0, beatPending := false, timer := none } }).bump .linkUps)))
    ∧ (s.relay.link = .down → exec .satDetFall s = .next { s with relay := { s.relay with satDet := false } })
    ∧ (s.relay.link = .up →
        let lost : List RelayEntry := (match s.relay.tx with
          | some ⟨some e, _, _, _⟩ => [e]
          | _ => []) ++ (s.relay.queue 0).entries ++ (s.relay.queue 1).entries ++ (s.relay.queue 2).entries
            ++ (s.relay.queue 3).entries
        ∃ t, exec .satDetFall s = .next t
          ∧ (∀ q : Fin 4, t.relay.queue q = { s.relay.queue q with entries := [], deficit := 0 })
          ∧ t.relay = { s.relay with
              satDet := false, link := .down, tx := none, queues := t.relay.queues, beatPending := false, timer := none }
          ∧ t.pool = s.pool.release (lost.flatMap (fun e => e.cells))
          ∧ t.partCount .linkDowns = satInc (s.partCount .linkDowns)
          ∧ t.partCount .relayLinkDiscards = min (s.partCount .relayLinkDiscards + lost.length)
              (max (s.partCount .relayLinkDiscards) 4294967295)
          ∧ (∀ c : PartCounter, c ≠ .linkDowns → c ≠ .relayLinkDiscards → t.partCount c = s.partCount c)
          ∧ t = { s with relay := t.relay, pool := t.pool, counters := t.counters })

/-- SELECTION (R22, R151 to R154): none while the link is not UP or a transmission is in progress; a pending beat first, its
stamp the estimate and its sequence the next; then the head of the highest strict queue, after stale heads are discarded;
then a weighted head its queue's deficit covers, charged with its length, or discarded uncharged when it is stale; where the
deficit at the pointer covers no head, a queue there that is empty or strict loses its deficit, the pointer moves to the next
weighted queue with an entry, the pointer's own last, and that queue's deficit grows by its quantum, weight × 64; with nothing
waiting the pointer's deficit becomes 0 (log 13). The cells of the line are counted from the start of what is sent (R198). -/
def Obligations.SelectionResult : Prop :=
  ∀ s : State,
    (s.relay.link ≠ .up ∨ s.relay.tx ≠ none → exec .selection s = .next s)
    ∧ (s.relay.link = .up → s.relay.tx = none →
      (∀ now : Time, s.relay.beatPending = true → s.tlu.htEst s.lc = some now →
        exec .selection s = .next (({ s with
          tlu := { s.tlu with regenSeq := s.tlu.regenSeq + 1 }
          relay := { s.relay with beatPending := false, cellOrigin := s.lc, tx := some ⟨none, s.lc, 20, closed (
            [0x13, 7, s.tlu.regenEpoch, 0] ++ leBytes 2 s.ident.node.toNat ++ leBytes 2 s.tlu.regenSeq.toNat
              ++ leBytes 6 now.toNat ++ [0, 0])⟩ } }).bump .beatsRegenerated))
      ∧ (s.relay.beatPending = false →
        (∀ (q : Fin 4) (e : RelayEntry) (es : List RelayEntry), (s.relay.queue q).weighted = false →
          (s.relay.queue q).entries = e :: es →
          (∀ q' : Fin 4, q < q' → (s.relay.queue q').weighted = true ∨ (s.relay.queue q').entries = []) →
          let rest := s.relay.queues.set q { s.relay.queue q with entries := es }
          let stale := e.kind ≠ .directive ∧ ∃ now, s.tlu.htEst s.lc = some now ∧ signed48 e.stamp now < s.relay.margin
          (¬stale → exec .selection s = .next { s with relay := { s.relay with
              queues := rest, cellOrigin := s.lc, tx := some ⟨some e, s.lc, e.length, s.pool.entryFrame e⟩ } })
          ∧ (stale → exec .selection s = exec .selection (({ s with
              relay := { s.relay with queues := rest }, pool := s.pool.release e.cells }).bump .relayStale)))
        ∧ ((∀ q : Fin 4, (s.relay.queue q).weighted = true ∨ (s.relay.queue q).entries = []) →
          ∀ (e : RelayEntry) (es : List RelayEntry), (s.relay.queue s.relay.pointer).entries = e :: es →
          e.length ≤ (s.relay.queue s.relay.pointer).deficit →
          (e.kind = .directive ∨ ∀ now, s.tlu.htEst s.lc = some now → s.relay.margin ≤ signed48 e.stamp now) →
          exec .selection s = .next { s with relay := { s.relay with
            queues := s.relay.queues.set s.relay.pointer { s.relay.queue s.relay.pointer with
              entries := es, deficit := (s.relay.queue s.relay.pointer).deficit - e.length }
            cellOrigin := s.lc, tx := some ⟨some e, s.lc, e.length, s.pool.entryFrame e⟩ } })
        ∧ ((∀ q : Fin 4, (s.relay.queue q).weighted = true ∨ (s.relay.queue q).entries = []) →
          (∀ q : Fin 4, 1 ≤ (s.relay.queue q).weight) →
          let here := s.relay.queue s.relay.pointer
          let waits (q : Fin 4) : Prop := (s.relay.queue q).weighted = true ∧ (s.relay.queue q).entries ≠ []
          let away (q : Fin 4) : Nat := (q.val + 3 - s.relay.pointer.val) % 4
          (∀ (e : RelayEntry) (es : List RelayEntry), here.entries = e :: es → e.length ≤ here.deficit →
            e.kind ≠ .directive → (∃ now, s.tlu.htEst s.lc = some now ∧ signed48 e.stamp now < s.relay.margin) →
            exec .selection s = exec .selection (({ s with
              relay := { s.relay with queues := s.relay.queues.set s.relay.pointer { here with entries := es } }
              pool := s.pool.release e.cells }).bump .relayStale))
          ∧ ∀ n : Fin 4, (∀ e es, here.entries = e :: es → here.deficit < e.length) → waits n →
            (∀ q : Fin 4, waits q → away n ≤ away q) →
            let kept : Vector RelayQueue 4 := if here.weighted = true ∧ here.entries ≠ [] then s.relay.queues
              else s.relay.queues.set s.relay.pointer { here with deficit := 0 }
            exec .selection s = exec .selection { s with relay := { s.relay with
              pointer := n
              queues := kept.set n { s.relay.queue n with
                deficit := (s.relay.queue n).deficit + 64 * (s.relay.queue n).weight } } })
        ∧ ((∀ q : Fin 4, (s.relay.queue q).entries = []) →
          exec .selection s = .next { s with relay := { s.relay with
            queues := s.relay.queues.set s.relay.pointer { s.relay.queue s.relay.pointer with deficit := 0 } } })))

/-- A selection made while the port is idle sends something or leaves every queue empty: the round of R152 always comes to a
choice while a head is left, whatever the weights and deficits. -/
def Obligations.SelectionSendsOrEmpties : Prop :=
  ∀ s : State, s.relay.link = .up → s.relay.tx = none → (∀ q : Fin 4, 1 ≤ (s.relay.queue q).weight) →
    ∃ t, exec .selection s = .next t
      ∧ ((∃ x, t.relay.tx = some x ∧ x.start = s.lc) ∨ ∀ q : Fin 4, (t.relay.queue q).entries = [])

/-- TRANSMISSION_END, REGENERATION_TIMER_EXPIRY and PRESENCE_TIMER_EXPIRY, at or after their instants (R154, R155, R185; log
26): a sent entry's cells are released and RELAY_SENT counts; a beat becomes pending, replacing one still pending; a PRESENCE
notice joins the report queue, or is dropped and counted, and the timer runs on from its instant. -/
def Obligations.TimedEvents : Prop :=
  ∀ s : State,
    (∀ x : Transmission, s.relay.tx = some x → 16 * x.length ≤ (s.lc - x.start).toNat →
      (x.entry = none → exec .transmissionEnd s = .next { s with relay := { s.relay with tx := none } })
      ∧ ∀ e, x.entry = some e → exec .transmissionEnd s = .next (({ s with
          relay := { s.relay with tx := none }, pool := s.pool.release e.cells }).bump .relaySent))
    ∧ (∀ due : Time, s.relay.timer = some due → 0 ≤ signed48 s.lc due →
        let s1 := { s with relay := { s.relay with
          beatPending := true, timer := some (timeAfter due s.relay.interval) } }
        exec .regenerationTimerExpiry s = .next (if s.relay.beatPending = true then s1.bump .regenReplaced else s1))
    ∧ ∀ due : Time, s.ident.presenceTimer = some due → 0 ≤ signed48 s.lc due →
        let notice := closed ([0x16, 7] ++ leBytes 2 s.du.noticeDest.toNat ++ leBytes 2 s.ident.node.toNat
          ++ leBytes 2 s.du.noticeCount.toNat ++ leBytes 6 0 ++ leBytes 2 10 ++ [1] ++ leBytes 6 s.ident.serial.toNat
          ++ [if s.ident.resetCause = .powerOn then 0 else 1] ++ leBytes 2 s.ident.directedResets)
        let s1 := { s with
          ident := { s.ident with presenceTimer := some (timeAfter due 49152000) }
          du := { s.du with noticeCount := s.du.noticeCount + 1 } }
        (s.du.reportQueue.length < 8 → exec .presenceTimerExpiry s = .next (({ s1 with
            du := { s1.du with reportQueue := s.du.reportQueue ++ [notice] } }).bump .noticesQueued))
        ∧ (8 ≤ s.du.reportQueue.length → ∃ t, exec .presenceTimerExpiry s = .next t
            ∧ t.partSet .reportDrop = true ∧ t.counters = (s1.bump .reportDrop).counters
            ∧ t = { s1 with counters := t.counters, du := { s1.du with attention := t.du.attention } })

/-- SATELLITE_FRAME_RECEIVED (R156; that a reception comes as one row with its cells, at its end, and lasts what its cells last is
log 24, the model's choice): nothing while the link is not UP, or when the reception began before the link came UP; a frame
that fails the checks, and one of another kind, counted and dropped; a REPORT or NOTICE placed unchanged at the tail of the
report queue and counted, or dropped with REPORT_DROP when eight frames wait there. -/
def Obligations.SatelliteFrameResult : Prop :=
  ∀ (s : State) (rx : Reception),
    let f := receivedBytes rx
    let upward := (byteAt f 0).toNat % 16 = 5 ∨ (byteAt f 0).toNat % 16 = 6
    let whole := s.relay.link = .up ∧ receptionTicks rx ≤ s.relay.upFor
    (¬whole → exec (.satelliteFrameReceived rx) s = .next s)
    ∧ (whole →
      (¬FramePasses f → exec (.satelliteFrameReceived rx) s = .next (s.bump .satRxBad))
      ∧ (FramePasses f → ¬upward → exec (.satelliteFrameReceived rx) s = .next (s.bump .satRxWrongKind))
      ∧ (FramePasses f → upward → s.du.reportQueue.length < 8 →
          exec (.satelliteFrameReceived rx) s = .next (({ s with
            du := { s.du with reportQueue := s.du.reportQueue ++ [f] } }).bump .satRxForwarded))
      ∧ (FramePasses f → upward → 8 ≤ s.du.reportQueue.length →
          ∃ t, exec (.satelliteFrameReceived rx) s = .next t
            ∧ t.partSet .reportDrop = true ∧ t.counters = (s.bump .reportDrop).counters
            ∧ t = { s with counters := t.counters, du := { s.du with attention := t.du.attention } }))

/-! ## The Line Monitor -/

/-- LINE_SAMPLING when it is due, and counting on from its instant (R188 to R191; log 26, the model's choice): each line's
sample is recorded and accepted when it equals the sample before it; in EVENT mode a changed accepted level of an unmasked
line, an establishment apart, is a detection; in MATCH mode the match's coming to hold is one; otherwise nothing else changes. -/
def Obligations.LineSamplingResult : Prop :=
  ∀ (s : State) (levels : BitVec 4), 0 ≤ signed48 s.lc s.lines.nextSample → s.du.gathered = false →
    let accepted (n : Fin 4) : Option Bool :=
      if s.lines.last[n] = some (levels.getLsbD n.val) then some (levels.getLsbD n.val) else s.lines.accepted[n]
    let l : LineMonitor := { s.lines with
      last := #v[some (levels.getLsbD 0), some (levels.getLsbD 1), some (levels.getLsbD 2), some (levels.getLsbD 3)]
      accepted := #v[accepted 0, accepted 1, accepted 2, accepted 3]
      nextSample := timeAfter s.lines.nextSample 3072 }
    let changed := ∃ n : Fin 4, s.lines.mask.getLsbD n.val = true ∧ s.lines.accepted[n] ≠ none
      ∧ accepted n ≠ s.lines.accepted[n]
    let matches_ := s.lines.mask ≠ 0 ∧ ∀ n : Fin 4, s.lines.mask.getLsbD n.val = true →
      accepted n = some (s.lines.compare.getLsbD n.val)
    (s.lines.detect = .event → ¬changed → exec (.lineSampling levels) s = .next { s with lines := l })
    ∧ (s.lines.detect = .event → changed → ∃ u : State, exec (.lineSampling levels) s = .next u.endEvent
        ∧ DetectionLeaves l s u)
    ∧ (s.lines.detect = .pattern → ¬matches_ →
        exec (.lineSampling levels) s = .next { s with lines := { l with matchHolds := false } })
    ∧ (s.lines.detect = .pattern → matches_ → s.lines.matchHolds = true →
        exec (.lineSampling levels) s = .next { s with lines := { l with matchHolds := true } })
    ∧ (s.lines.detect = .pattern → matches_ → s.lines.matchHolds = false →
        ∃ u : State, exec (.lineSampling levels) s = .next u.endEvent ∧ DetectionLeaves { l with matchHolds := true } s u)

/-! ## Frames and items as bytes -/

/-- The items of a DIRECTIVE, encoded as R195 gives them, are read back as they were: every field of every item at every
value it admits. -/
def Obligations.DirectiveRoundTrip : Prop :=
  ∀ its : List Item, its.length ≤ 255 → (∀ it ∈ its, itemLengthOk it = true) →
    payloadItems (encodeItems its) = its.map ReadItem.item

/-- A frame sent on the satellite line is received as it was sent, whatever cells follow it, after a cell that began with a
transition: the line has then been still for 1 or 2 ticks. It lasts 16 ticks a byte (R198). -/
def Obligations.SatelliteLineRoundTrip : Prop :=
  ∀ (f : List Byte) (still : Nat) (after : List LineCell), still ≤ 2 → f.length = field f 14 2 + 20 → f.length ≤ 1460 →
    receivedBytes ⟨still, lineCells f ++ after⟩ = f ∧ receptionTicks ⟨still, lineCells f ++ after⟩ = 16 * f.length

/-! ## Invariants that every step keeps -/

/-- Every step keeps the bounds of the intake, the report queue and the relay queues (R26, R144, R173), of the rate (R13) and
of the gains (R127, R135), the presence and regeneration timers present exactly when R155 and R185 say, and no code
gathered between events (log 28). -/
def Obligations.StepKeepsBoundsAndTimers : Prop :=
  ∀ s t : State, step s = .next t →
    (IntakeBounded s → IntakeBounded t) ∧ (ReportBounded s → ReportBounded t) ∧ (RelayBounded s → RelayBounded t)
      ∧ (RateBounded s → RateBounded t) ∧ (GainsBounded s → GainsBounded t) ∧ (PresenceTimed s → PresenceTimed t)
      ∧ (RegenTimed s → RegenTimed t) ∧ (NoneGathered s → NoneGathered t)

/-- Every step keeps the stream table well formed (R43, R45, R73, R74, R90, R187): distinct keys, at most 256 slots reserved,
rings as long as their depths and no longer than 64, every slot of a stream without an anchor EMPTY, breaks and runs in their
order and range, no index twice in the request list, and no local-play stream that needs output periods in STANDBY. -/
def Obligations.StepKeepsStreamTable : Prop :=
  ∀ s t : State, step s = .next t →
    (KeysDistinct s → KeysDistinct t) ∧ (SlotsBounded s → SlotsBounded t) ∧ (BreaksOrdered s → BreaksOrdered t)
      ∧ (RingsFormed s → RingsFormed t) ∧ (RingsAnchored s → RingsAnchored t)
      ∧ (RunsBounded s → RunsBounded t) ∧ (RequestsOnce s → RequestsOnce t) ∧ (StandbyQuiet s → StandbyQuiet t)

/-- Every step keeps R19's rule: while the time state is UNLOCKED or ACQUIRING no stream is PRIMED, PLAYING or DRAINING. -/
def Obligations.StepKeepsTimeGuard : Prop :=
  ∀ s t : State, TimeGuardsStreams s → step s = .next t → TimeGuardsStreams t

/-- Every step keeps the cell pool well formed (R67, R69): no cell held twice over in the list, every number below 1024, every
holder count 1 or 2. -/
def Obligations.StepKeepsPool : Prop :=
  ∀ s t : State, PoolFormed s → step s = .next t → PoolFormed t

/-- Every step keeps each stream's charge within its quota (R70, R82, R99), and the quota of an IDLE record at 0, which is the
model's choice (log 31). -/
def Obligations.StepKeepsCharges : Prop :=
  ∀ s t : State, ChargesBounded s → step s = .next t → ChargesBounded t

/-- Until a counter saturates and between clears, RELAY_COPIES equals RELAY_SENT plus RELAY_STALE plus RELAY_LINK_DISCARDS, plus
the entries in the queues, plus one when an entry is being transmitted (R158). Clears come from QUERY alone. -/
def Obligations.RelayCopiesBalance : Prop :=
  ∀ s t : State, s.partCount .relayCopies < 4294967295 → (∀ h reqs, s.pending.head? ≠ some (.query h reqs)) →
    s.pending.head? ≠ some .directiveTaken →
    let balanced (x : State) : Prop := x.partCount .relayCopies
      = x.partCount .relaySent + x.partCount .relayStale + x.partCount .relayLinkDiscards
        + ((x.relay.queue 0).entries.length + (x.relay.queue 1).entries.length + (x.relay.queue 2).entries.length
          + (x.relay.queue 3).entries.length)
        + (match x.relay.tx with
          | some ⟨some _, _, _, _⟩ => 1
          | _ => 0)
    balanced s → step s = .next t → balanced t
end

