-- ==== Sys2Proof/Laws/State.lean ====
section
/-! SUPPORT. One lemma per field of State for each named update, each true by definition, so that no later proof unfolds a record
update; and the reading of the tables that updates write. -/

namespace Sys2Proof.Machine

/-! ### State.setStream -/

@[simp] theorem State.setStream_lc (s : State) (i : Fin 8) (st : Stream) : (s.setStream i st).lc = s.lc := rfl
@[simp] theorem State.setStream_firstCycle (s : State) (i : Fin 8) (st : Stream) :
    (s.setStream i st).firstCycle = s.firstCycle := rfl
@[simp] theorem State.setStream_tlu (s : State) (i : Fin 8) (st : Stream) : (s.setStream i st).tlu = s.tlu := rfl
@[simp] theorem State.setStream_port (s : State) (i : Fin 8) (st : Stream) : (s.setStream i st).port = s.port := rfl
@[simp] theorem State.setStream_streams (s : State) (i : Fin 8) (st : Stream) :
    (s.setStream i st).streams = s.streams.set i st := rfl
@[simp] theorem State.setStream_pool (s : State) (i : Fin 8) (st : Stream) : (s.setStream i st).pool = s.pool := rfl
@[simp] theorem State.setStream_requests (s : State) (i : Fin 8) (st : Stream) :
    (s.setStream i st).requests = s.requests := rfl
@[simp] theorem State.setStream_recovery (s : State) (i : Fin 8) (st : Stream) :
    (s.setStream i st).recovery = s.recovery := rfl
@[simp] theorem State.setStream_channels (s : State) (i : Fin 8) (st : Stream) :
    (s.setStream i st).channels = s.channels := rfl
@[simp] theorem State.setStream_lanes (s : State) (i : Fin 8) (st : Stream) : (s.setStream i st).lanes = s.lanes := rfl
@[simp] theorem State.setStream_relay (s : State) (i : Fin 8) (st : Stream) : (s.setStream i st).relay = s.relay := rfl
@[simp] theorem State.setStream_du (s : State) (i : Fin 8) (st : Stream) : (s.setStream i st).du = s.du := rfl
@[simp] theorem State.setStream_ident (s : State) (i : Fin 8) (st : Stream) : (s.setStream i st).ident = s.ident := rfl
@[simp] theorem State.setStream_lines (s : State) (i : Fin 8) (st : Stream) : (s.setStream i st).lines = s.lines := rfl
@[simp] theorem State.setStream_counters (s : State) (i : Fin 8) (st : Stream) :
    (s.setStream i st).counters = s.counters := rfl
@[simp] theorem State.setStream_pending (s : State) (i : Fin 8) (st : Stream) :
    (s.setStream i st).pending = s.pending := rfl

/-! ### State.setChannel -/

@[simp] theorem State.setChannel_lc (s : State) (c : Fin 8) (ch : Channel) : (s.setChannel c ch).lc = s.lc := rfl
@[simp] theorem State.setChannel_firstCycle (s : State) (c : Fin 8) (ch : Channel) :
    (s.setChannel c ch).firstCycle = s.firstCycle := rfl
@[simp] theorem State.setChannel_tlu (s : State) (c : Fin 8) (ch : Channel) : (s.setChannel c ch).tlu = s.tlu := rfl
@[simp] theorem State.setChannel_port (s : State) (c : Fin 8) (ch : Channel) : (s.setChannel c ch).port = s.port := rfl
@[simp] theorem State.setChannel_streams (s : State) (c : Fin 8) (ch : Channel) :
    (s.setChannel c ch).streams = s.streams := rfl
@[simp] theorem State.setChannel_pool (s : State) (c : Fin 8) (ch : Channel) : (s.setChannel c ch).pool = s.pool := rfl
@[simp] theorem State.setChannel_requests (s : State) (c : Fin 8) (ch : Channel) :
    (s.setChannel c ch).requests = s.requests := rfl
@[simp] theorem State.setChannel_recovery (s : State) (c : Fin 8) (ch : Channel) :
    (s.setChannel c ch).recovery = s.recovery := rfl
@[simp] theorem State.setChannel_channels (s : State) (c : Fin 8) (ch : Channel) :
    (s.setChannel c ch).channels = s.channels.set c ch := rfl
@[simp] theorem State.setChannel_lanes (s : State) (c : Fin 8) (ch : Channel) :
    (s.setChannel c ch).lanes = s.lanes := rfl
@[simp] theorem State.setChannel_relay (s : State) (c : Fin 8) (ch : Channel) :
    (s.setChannel c ch).relay = s.relay := rfl
@[simp] theorem State.setChannel_du (s : State) (c : Fin 8) (ch : Channel) : (s.setChannel c ch).du = s.du := rfl
@[simp] theorem State.setChannel_ident (s : State) (c : Fin 8) (ch : Channel) :
    (s.setChannel c ch).ident = s.ident := rfl
@[simp] theorem State.setChannel_lines (s : State) (c : Fin 8) (ch : Channel) :
    (s.setChannel c ch).lines = s.lines := rfl
@[simp] theorem State.setChannel_counters (s : State) (c : Fin 8) (ch : Channel) :
    (s.setChannel c ch).counters = s.counters := rfl
@[simp] theorem State.setChannel_pending (s : State) (c : Fin 8) (ch : Channel) :
    (s.setChannel c ch).pending = s.pending := rfl

/-! ### State.setPort -/

@[simp] theorem State.setPort_lc (s : State) (p : Port) : (s.setPort p).lc = s.lc := rfl
@[simp] theorem State.setPort_firstCycle (s : State) (p : Port) : (s.setPort p).firstCycle = s.firstCycle := rfl
@[simp] theorem State.setPort_tlu (s : State) (p : Port) : (s.setPort p).tlu = s.tlu := rfl
@[simp] theorem State.setPort_port (s : State) (p : Port) : (s.setPort p).port = p := rfl
@[simp] theorem State.setPort_streams (s : State) (p : Port) : (s.setPort p).streams = s.streams := rfl
@[simp] theorem State.setPort_pool (s : State) (p : Port) : (s.setPort p).pool = s.pool := rfl
@[simp] theorem State.setPort_requests (s : State) (p : Port) : (s.setPort p).requests = s.requests := rfl
@[simp] theorem State.setPort_recovery (s : State) (p : Port) : (s.setPort p).recovery = s.recovery := rfl
@[simp] theorem State.setPort_channels (s : State) (p : Port) : (s.setPort p).channels = s.channels := rfl
@[simp] theorem State.setPort_lanes (s : State) (p : Port) : (s.setPort p).lanes = s.lanes := rfl
@[simp] theorem State.setPort_relay (s : State) (p : Port) : (s.setPort p).relay = s.relay := rfl
@[simp] theorem State.setPort_du (s : State) (p : Port) : (s.setPort p).du = s.du := rfl
@[simp] theorem State.setPort_ident (s : State) (p : Port) : (s.setPort p).ident = s.ident := rfl
@[simp] theorem State.setPort_lines (s : State) (p : Port) : (s.setPort p).lines = s.lines := rfl
@[simp] theorem State.setPort_counters (s : State) (p : Port) : (s.setPort p).counters = s.counters := rfl
@[simp] theorem State.setPort_pending (s : State) (p : Port) : (s.setPort p).pending = s.pending := rfl

/-! ### State.setSelect -/

@[simp] theorem State.setSelect_lc (s : State) (x : Select) : (s.setSelect x).lc = s.lc := rfl
@[simp] theorem State.setSelect_firstCycle (s : State) (x : Select) : (s.setSelect x).firstCycle = s.firstCycle := rfl
@[simp] theorem State.setSelect_tlu (s : State) (x : Select) : (s.setSelect x).tlu = s.tlu := rfl
@[simp] theorem State.setSelect_port (s : State) (x : Select) :
    (s.setSelect x).port = { s.port with select := x } := rfl
@[simp] theorem State.setSelect_streams (s : State) (x : Select) : (s.setSelect x).streams = s.streams := rfl
@[simp] theorem State.setSelect_pool (s : State) (x : Select) : (s.setSelect x).pool = s.pool := rfl
@[simp] theorem State.setSelect_requests (s : State) (x : Select) : (s.setSelect x).requests = s.requests := rfl
@[simp] theorem State.setSelect_recovery (s : State) (x : Select) : (s.setSelect x).recovery = s.recovery := rfl
@[simp] theorem State.setSelect_channels (s : State) (x : Select) : (s.setSelect x).channels = s.channels := rfl
@[simp] theorem State.setSelect_lanes (s : State) (x : Select) : (s.setSelect x).lanes = s.lanes := rfl
@[simp] theorem State.setSelect_relay (s : State) (x : Select) : (s.setSelect x).relay = s.relay := rfl
@[simp] theorem State.setSelect_du (s : State) (x : Select) : (s.setSelect x).du = s.du := rfl
@[simp] theorem State.setSelect_ident (s : State) (x : Select) : (s.setSelect x).ident = s.ident := rfl
@[simp] theorem State.setSelect_lines (s : State) (x : Select) : (s.setSelect x).lines = s.lines := rfl
@[simp] theorem State.setSelect_counters (s : State) (x : Select) : (s.setSelect x).counters = s.counters := rfl
@[simp] theorem State.setSelect_pending (s : State) (x : Select) : (s.setSelect x).pending = s.pending := rfl

/-! ### State.setTlu -/

@[simp] theorem State.setTlu_lc (s : State) (t : Tlu) : (s.setTlu t).lc = s.lc := rfl
@[simp] theorem State.setTlu_firstCycle (s : State) (t : Tlu) : (s.setTlu t).firstCycle = s.firstCycle := rfl
@[simp] theorem State.setTlu_tlu (s : State) (t : Tlu) : (s.setTlu t).tlu = t := rfl
@[simp] theorem State.setTlu_port (s : State) (t : Tlu) : (s.setTlu t).port = s.port := rfl
@[simp] theorem State.setTlu_streams (s : State) (t : Tlu) : (s.setTlu t).streams = s.streams := rfl
@[simp] theorem State.setTlu_pool (s : State) (t : Tlu) : (s.setTlu t).pool = s.pool := rfl
@[simp] theorem State.setTlu_requests (s : State) (t : Tlu) : (s.setTlu t).requests = s.requests := rfl
@[simp] theorem State.setTlu_recovery (s : State) (t : Tlu) : (s.setTlu t).recovery = s.recovery := rfl
@[simp] theorem State.setTlu_channels (s : State) (t : Tlu) : (s.setTlu t).channels = s.channels := rfl
@[simp] theorem State.setTlu_lanes (s : State) (t : Tlu) : (s.setTlu t).lanes = s.lanes := rfl
@[simp] theorem State.setTlu_relay (s : State) (t : Tlu) : (s.setTlu t).relay = s.relay := rfl
@[simp] theorem State.setTlu_du (s : State) (t : Tlu) : (s.setTlu t).du = s.du := rfl
@[simp] theorem State.setTlu_ident (s : State) (t : Tlu) : (s.setTlu t).ident = s.ident := rfl
@[simp] theorem State.setTlu_lines (s : State) (t : Tlu) : (s.setTlu t).lines = s.lines := rfl
@[simp] theorem State.setTlu_counters (s : State) (t : Tlu) : (s.setTlu t).counters = s.counters := rfl
@[simp] theorem State.setTlu_pending (s : State) (t : Tlu) : (s.setTlu t).pending = s.pending := rfl

/-! ### State.setRelay -/

@[simp] theorem State.setRelay_lc (s : State) (r : Relay) : (s.setRelay r).lc = s.lc := rfl
@[simp] theorem State.setRelay_firstCycle (s : State) (r : Relay) : (s.setRelay r).firstCycle = s.firstCycle := rfl
@[simp] theorem State.setRelay_tlu (s : State) (r : Relay) : (s.setRelay r).tlu = s.tlu := rfl
@[simp] theorem State.setRelay_port (s : State) (r : Relay) : (s.setRelay r).port = s.port := rfl
@[simp] theorem State.setRelay_streams (s : State) (r : Relay) : (s.setRelay r).streams = s.streams := rfl
@[simp] theorem State.setRelay_pool (s : State) (r : Relay) : (s.setRelay r).pool = s.pool := rfl
@[simp] theorem State.setRelay_requests (s : State) (r : Relay) : (s.setRelay r).requests = s.requests := rfl
@[simp] theorem State.setRelay_recovery (s : State) (r : Relay) : (s.setRelay r).recovery = s.recovery := rfl
@[simp] theorem State.setRelay_channels (s : State) (r : Relay) : (s.setRelay r).channels = s.channels := rfl
@[simp] theorem State.setRelay_lanes (s : State) (r : Relay) : (s.setRelay r).lanes = s.lanes := rfl
@[simp] theorem State.setRelay_relay (s : State) (r : Relay) : (s.setRelay r).relay = r := rfl
@[simp] theorem State.setRelay_du (s : State) (r : Relay) : (s.setRelay r).du = s.du := rfl
@[simp] theorem State.setRelay_ident (s : State) (r : Relay) : (s.setRelay r).ident = s.ident := rfl
@[simp] theorem State.setRelay_lines (s : State) (r : Relay) : (s.setRelay r).lines = s.lines := rfl
@[simp] theorem State.setRelay_counters (s : State) (r : Relay) : (s.setRelay r).counters = s.counters := rfl
@[simp] theorem State.setRelay_pending (s : State) (r : Relay) : (s.setRelay r).pending = s.pending := rfl

/-! ### State.setDu -/

@[simp] theorem State.setDu_lc (s : State) (d : DirectiveUnit) : (s.setDu d).lc = s.lc := rfl
@[simp] theorem State.setDu_firstCycle (s : State) (d : DirectiveUnit) : (s.setDu d).firstCycle = s.firstCycle := rfl
@[simp] theorem State.setDu_tlu (s : State) (d : DirectiveUnit) : (s.setDu d).tlu = s.tlu := rfl
@[simp] theorem State.setDu_port (s : State) (d : DirectiveUnit) : (s.setDu d).port = s.port := rfl
@[simp] theorem State.setDu_streams (s : State) (d : DirectiveUnit) : (s.setDu d).streams = s.streams := rfl
@[simp] theorem State.setDu_pool (s : State) (d : DirectiveUnit) : (s.setDu d).pool = s.pool := rfl
@[simp] theorem State.setDu_requests (s : State) (d : DirectiveUnit) : (s.setDu d).requests = s.requests := rfl
@[simp] theorem State.setDu_recovery (s : State) (d : DirectiveUnit) : (s.setDu d).recovery = s.recovery := rfl
@[simp] theorem State.setDu_channels (s : State) (d : DirectiveUnit) : (s.setDu d).channels = s.channels := rfl
@[simp] theorem State.setDu_lanes (s : State) (d : DirectiveUnit) : (s.setDu d).lanes = s.lanes := rfl
@[simp] theorem State.setDu_relay (s : State) (d : DirectiveUnit) : (s.setDu d).relay = s.relay := rfl
@[simp] theorem State.setDu_du (s : State) (d : DirectiveUnit) : (s.setDu d).du = d := rfl
@[simp] theorem State.setDu_ident (s : State) (d : DirectiveUnit) : (s.setDu d).ident = s.ident := rfl
@[simp] theorem State.setDu_lines (s : State) (d : DirectiveUnit) : (s.setDu d).lines = s.lines := rfl
@[simp] theorem State.setDu_counters (s : State) (d : DirectiveUnit) : (s.setDu d).counters = s.counters := rfl
@[simp] theorem State.setDu_pending (s : State) (d : DirectiveUnit) : (s.setDu d).pending = s.pending := rfl

/-! ### State.setIdent -/

@[simp] theorem State.setIdent_lc (s : State) (d : Identity) : (s.setIdent d).lc = s.lc := rfl
@[simp] theorem State.setIdent_firstCycle (s : State) (d : Identity) : (s.setIdent d).firstCycle = s.firstCycle := rfl
@[simp] theorem State.setIdent_tlu (s : State) (d : Identity) : (s.setIdent d).tlu = s.tlu := rfl
@[simp] theorem State.setIdent_port (s : State) (d : Identity) : (s.setIdent d).port = s.port := rfl
@[simp] theorem State.setIdent_streams (s : State) (d : Identity) : (s.setIdent d).streams = s.streams := rfl
@[simp] theorem State.setIdent_pool (s : State) (d : Identity) : (s.setIdent d).pool = s.pool := rfl
@[simp] theorem State.setIdent_requests (s : State) (d : Identity) : (s.setIdent d).requests = s.requests := rfl
@[simp] theorem State.setIdent_recovery (s : State) (d : Identity) : (s.setIdent d).recovery = s.recovery := rfl
@[simp] theorem State.setIdent_channels (s : State) (d : Identity) : (s.setIdent d).channels = s.channels := rfl
@[simp] theorem State.setIdent_lanes (s : State) (d : Identity) : (s.setIdent d).lanes = s.lanes := rfl
@[simp] theorem State.setIdent_relay (s : State) (d : Identity) : (s.setIdent d).relay = s.relay := rfl
@[simp] theorem State.setIdent_du (s : State) (d : Identity) : (s.setIdent d).du = s.du := rfl
@[simp] theorem State.setIdent_ident (s : State) (d : Identity) : (s.setIdent d).ident = d := rfl
@[simp] theorem State.setIdent_lines (s : State) (d : Identity) : (s.setIdent d).lines = s.lines := rfl
@[simp] theorem State.setIdent_counters (s : State) (d : Identity) : (s.setIdent d).counters = s.counters := rfl
@[simp] theorem State.setIdent_pending (s : State) (d : Identity) : (s.setIdent d).pending = s.pending := rfl

/-! ### State.setLines -/

@[simp] theorem State.setLines_lc (s : State) (l : LineMonitor) : (s.setLines l).lc = s.lc := rfl
@[simp] theorem State.setLines_firstCycle (s : State) (l : LineMonitor) :
    (s.setLines l).firstCycle = s.firstCycle := rfl
@[simp] theorem State.setLines_tlu (s : State) (l : LineMonitor) : (s.setLines l).tlu = s.tlu := rfl
@[simp] theorem State.setLines_port (s : State) (l : LineMonitor) : (s.setLines l).port = s.port := rfl
@[simp] theorem State.setLines_streams (s : State) (l : LineMonitor) : (s.setLines l).streams = s.streams := rfl
@[simp] theorem State.setLines_pool (s : State) (l : LineMonitor) : (s.setLines l).pool = s.pool := rfl
@[simp] theorem State.setLines_requests (s : State) (l : LineMonitor) : (s.setLines l).requests = s.requests := rfl
@[simp] theorem State.setLines_recovery (s : State) (l : LineMonitor) : (s.setLines l).recovery = s.recovery := rfl
@[simp] theorem State.setLines_channels (s : State) (l : LineMonitor) : (s.setLines l).channels = s.channels := rfl
@[simp] theorem State.setLines_lanes (s : State) (l : LineMonitor) : (s.setLines l).lanes = s.lanes := rfl
@[simp] theorem State.setLines_relay (s : State) (l : LineMonitor) : (s.setLines l).relay = s.relay := rfl
@[simp] theorem State.setLines_du (s : State) (l : LineMonitor) : (s.setLines l).du = s.du := rfl
@[simp] theorem State.setLines_ident (s : State) (l : LineMonitor) : (s.setLines l).ident = s.ident := rfl
@[simp] theorem State.setLines_lines (s : State) (l : LineMonitor) : (s.setLines l).lines = l := rfl
@[simp] theorem State.setLines_counters (s : State) (l : LineMonitor) : (s.setLines l).counters = s.counters := rfl
@[simp] theorem State.setLines_pending (s : State) (l : LineMonitor) : (s.setLines l).pending = s.pending := rfl

/-! ### State.setLanes -/

@[simp] theorem State.setLanes_lc (s : State) (l : Lanes) : (s.setLanes l).lc = s.lc := rfl
@[simp] theorem State.setLanes_firstCycle (s : State) (l : Lanes) : (s.setLanes l).firstCycle = s.firstCycle := rfl
@[simp] theorem State.setLanes_tlu (s : State) (l : Lanes) : (s.setLanes l).tlu = s.tlu := rfl
@[simp] theorem State.setLanes_port (s : State) (l : Lanes) : (s.setLanes l).port = s.port := rfl
@[simp] theorem State.setLanes_streams (s : State) (l : Lanes) : (s.setLanes l).streams = s.streams := rfl
@[simp] theorem State.setLanes_pool (s : State) (l : Lanes) : (s.setLanes l).pool = s.pool := rfl
@[simp] theorem State.setLanes_requests (s : State) (l : Lanes) : (s.setLanes l).requests = s.requests := rfl
@[simp] theorem State.setLanes_recovery (s : State) (l : Lanes) : (s.setLanes l).recovery = s.recovery := rfl
@[simp] theorem State.setLanes_channels (s : State) (l : Lanes) : (s.setLanes l).channels = s.channels := rfl
@[simp] theorem State.setLanes_lanes (s : State) (l : Lanes) : (s.setLanes l).lanes = l := rfl
@[simp] theorem State.setLanes_relay (s : State) (l : Lanes) : (s.setLanes l).relay = s.relay := rfl
@[simp] theorem State.setLanes_du (s : State) (l : Lanes) : (s.setLanes l).du = s.du := rfl
@[simp] theorem State.setLanes_ident (s : State) (l : Lanes) : (s.setLanes l).ident = s.ident := rfl
@[simp] theorem State.setLanes_lines (s : State) (l : Lanes) : (s.setLanes l).lines = s.lines := rfl
@[simp] theorem State.setLanes_counters (s : State) (l : Lanes) : (s.setLanes l).counters = s.counters := rfl
@[simp] theorem State.setLanes_pending (s : State) (l : Lanes) : (s.setLanes l).pending = s.pending := rfl

/-! ### State.advance -/

@[simp] theorem State.advance_lc (s : State) : s.advance.lc = s.lc + 1 := rfl
@[simp] theorem State.advance_relay (s : State) :
    s.advance.relay = { s.relay with upFor := s.relay.upFor + 1 } := rfl
@[simp] theorem State.advance_firstCycle (s : State) : s.advance.firstCycle = s.firstCycle := rfl
@[simp] theorem State.advance_tlu (s : State) : s.advance.tlu = s.tlu := rfl
@[simp] theorem State.advance_port (s : State) : s.advance.port = s.port := rfl
@[simp] theorem State.advance_streams (s : State) : s.advance.streams = s.streams := rfl
@[simp] theorem State.advance_pool (s : State) : s.advance.pool = s.pool := rfl
@[simp] theorem State.advance_requests (s : State) : s.advance.requests = s.requests := rfl
@[simp] theorem State.advance_recovery (s : State) : s.advance.recovery = s.recovery := rfl
@[simp] theorem State.advance_channels (s : State) : s.advance.channels = s.channels := rfl
@[simp] theorem State.advance_lanes (s : State) : s.advance.lanes = s.lanes := rfl
@[simp] theorem State.advance_du (s : State) : s.advance.du = s.du := rfl
@[simp] theorem State.advance_ident (s : State) : s.advance.ident = s.ident := rfl
@[simp] theorem State.advance_lines (s : State) : s.advance.lines = s.lines := rfl
@[simp] theorem State.advance_counters (s : State) : s.advance.counters = s.counters := rfl
@[simp] theorem State.advance_pending (s : State) : s.advance.pending = s.pending := rfl

/-! ### Slots at a switch -/

@[simp] theorem Slot.switchTo_state (b : Seq) (sl : Slot) : (sl.switchTo b).state = sl.state := by
  unfold Slot.switchTo; split <;> rfl
@[simp] theorem Slot.switchTo_seq (b : Seq) (sl : Slot) : (sl.switchTo b).seq = sl.seq := by
  unfold Slot.switchTo; split <;> rfl
@[simp] theorem Slot.switchTo_cells (b : Seq) (sl : Slot) : (sl.switchTo b).cells = sl.cells := by
  unfold Slot.switchTo; split <;> rfl
@[simp] theorem Slot.switchTo_seg (b : Seq) (sl : Slot) : (sl.switchTo b).seg = .current := by
  unfold Slot.switchTo; split <;> simp_all

/-! ### State.setPeriod -/

@[simp] theorem State.setPeriod_lc (s : State) (p : Option OutputPeriod) : (s.setPeriod p).lc = s.lc := rfl
@[simp] theorem State.setPeriod_firstCycle (s : State) (p : Option OutputPeriod) :
    (s.setPeriod p).firstCycle = s.firstCycle := rfl
@[simp] theorem State.setPeriod_tlu (s : State) (p : Option OutputPeriod) : (s.setPeriod p).tlu = s.tlu := rfl
@[simp] theorem State.setPeriod_port (s : State) (p : Option OutputPeriod) : (s.setPeriod p).port = s.port := rfl
@[simp] theorem State.setPeriod_streams (s : State) (p : Option OutputPeriod) :
    (s.setPeriod p).streams = s.streams := rfl
@[simp] theorem State.setPeriod_pool (s : State) (p : Option OutputPeriod) : (s.setPeriod p).pool = s.pool := rfl
@[simp] theorem State.setPeriod_requests (s : State) (p : Option OutputPeriod) :
    (s.setPeriod p).requests = s.requests := rfl
@[simp] theorem State.setPeriod_recovery (s : State) (p : Option OutputPeriod) :
    (s.setPeriod p).recovery = s.recovery := rfl
@[simp] theorem State.setPeriod_channels (s : State) (p : Option OutputPeriod) :
    (s.setPeriod p).channels = s.channels := rfl
@[simp] theorem State.setPeriod_lanes (s : State) (p : Option OutputPeriod) :
    (s.setPeriod p).lanes = { s.lanes with period := p } := rfl
@[simp] theorem State.setPeriod_relay (s : State) (p : Option OutputPeriod) : (s.setPeriod p).relay = s.relay := rfl
@[simp] theorem State.setPeriod_du (s : State) (p : Option OutputPeriod) : (s.setPeriod p).du = s.du := rfl
@[simp] theorem State.setPeriod_ident (s : State) (p : Option OutputPeriod) : (s.setPeriod p).ident = s.ident := rfl
@[simp] theorem State.setPeriod_lines (s : State) (p : Option OutputPeriod) : (s.setPeriod p).lines = s.lines := rfl
@[simp] theorem State.setPeriod_counters (s : State) (p : Option OutputPeriod) :
    (s.setPeriod p).counters = s.counters := rfl
@[simp] theorem State.setPeriod_pending (s : State) (p : Option OutputPeriod) :
    (s.setPeriod p).pending = s.pending := rfl

/-! ### State.bump -/

@[simp] theorem State.bump_lc (s : State) (c : PartCounter) : (s.bump c).lc = s.lc := rfl
@[simp] theorem State.bump_firstCycle (s : State) (c : PartCounter) : (s.bump c).firstCycle = s.firstCycle := rfl
@[simp] theorem State.bump_tlu (s : State) (c : PartCounter) : (s.bump c).tlu = s.tlu := rfl
@[simp] theorem State.bump_port (s : State) (c : PartCounter) : (s.bump c).port = s.port := rfl
@[simp] theorem State.bump_streams (s : State) (c : PartCounter) : (s.bump c).streams = s.streams := rfl
@[simp] theorem State.bump_pool (s : State) (c : PartCounter) : (s.bump c).pool = s.pool := rfl
@[simp] theorem State.bump_requests (s : State) (c : PartCounter) : (s.bump c).requests = s.requests := rfl
@[simp] theorem State.bump_recovery (s : State) (c : PartCounter) : (s.bump c).recovery = s.recovery := rfl
@[simp] theorem State.bump_channels (s : State) (c : PartCounter) : (s.bump c).channels = s.channels := rfl
@[simp] theorem State.bump_lanes (s : State) (c : PartCounter) : (s.bump c).lanes = s.lanes := rfl
@[simp] theorem State.bump_relay (s : State) (c : PartCounter) : (s.bump c).relay = s.relay := rfl
@[simp] theorem State.bump_du (s : State) (c : PartCounter) : (s.bump c).du = s.du := rfl
@[simp] theorem State.bump_ident (s : State) (c : PartCounter) : (s.bump c).ident = s.ident := rfl
@[simp] theorem State.bump_lines (s : State) (c : PartCounter) : (s.bump c).lines = s.lines := rfl
@[simp] theorem State.bump_counters (s : State) (c : PartCounter) :
    (s.bump c).counters = s.counters.set c.idx (satInc (s.partCount c)) := rfl
@[simp] theorem State.bump_pending (s : State) (c : PartCounter) : (s.bump c).pending = s.pending := rfl

/-! ### State.bumpStream -/

@[simp] theorem State.bumpStream_lc (s : State) (i : Fin 8) (c : StreamCounter) : (s.bumpStream i c).lc = s.lc := rfl
@[simp] theorem State.bumpStream_firstCycle (s : State) (i : Fin 8) (c : StreamCounter) :
    (s.bumpStream i c).firstCycle = s.firstCycle := rfl
@[simp] theorem State.bumpStream_tlu (s : State) (i : Fin 8) (c : StreamCounter) : (s.bumpStream i c).tlu = s.tlu := rfl
@[simp] theorem State.bumpStream_port (s : State) (i : Fin 8) (c : StreamCounter) :
    (s.bumpStream i c).port = s.port := rfl
@[simp] theorem State.bumpStream_streams (s : State) (i : Fin 8) (c : StreamCounter) :
    (s.bumpStream i c).streams = s.streams.set i { s.stream i with
      counters := (s.stream i).counters.set c.idx (satInc ((s.stream i).count c)) } := rfl
@[simp] theorem State.bumpStream_pool (s : State) (i : Fin 8) (c : StreamCounter) :
    (s.bumpStream i c).pool = s.pool := rfl
@[simp] theorem State.bumpStream_requests (s : State) (i : Fin 8) (c : StreamCounter) :
    (s.bumpStream i c).requests = s.requests := rfl
@[simp] theorem State.bumpStream_recovery (s : State) (i : Fin 8) (c : StreamCounter) :
    (s.bumpStream i c).recovery = s.recovery := rfl
@[simp] theorem State.bumpStream_channels (s : State) (i : Fin 8) (c : StreamCounter) :
    (s.bumpStream i c).channels = s.channels := rfl
@[simp] theorem State.bumpStream_lanes (s : State) (i : Fin 8) (c : StreamCounter) :
    (s.bumpStream i c).lanes = s.lanes := rfl
@[simp] theorem State.bumpStream_relay (s : State) (i : Fin 8) (c : StreamCounter) :
    (s.bumpStream i c).relay = s.relay := rfl
@[simp] theorem State.bumpStream_du (s : State) (i : Fin 8) (c : StreamCounter) : (s.bumpStream i c).du = s.du := rfl
@[simp] theorem State.bumpStream_ident (s : State) (i : Fin 8) (c : StreamCounter) :
    (s.bumpStream i c).ident = s.ident := rfl
@[simp] theorem State.bumpStream_lines (s : State) (i : Fin 8) (c : StreamCounter) :
    (s.bumpStream i c).lines = s.lines := rfl
@[simp] theorem State.bumpStream_counters (s : State) (i : Fin 8) (c : StreamCounter) :
    (s.bumpStream i c).counters = s.counters := rfl
@[simp] theorem State.bumpStream_pending (s : State) (i : Fin 8) (c : StreamCounter) :
    (s.bumpStream i c).pending = s.pending := rfl

/-! ### State.hold -/

@[simp] theorem State.hold_lc (s : State) (ids : List Nat) : (s.hold ids).lc = s.lc := rfl
@[simp] theorem State.hold_firstCycle (s : State) (ids : List Nat) : (s.hold ids).firstCycle = s.firstCycle := rfl
@[simp] theorem State.hold_tlu (s : State) (ids : List Nat) : (s.hold ids).tlu = s.tlu := rfl
@[simp] theorem State.hold_port (s : State) (ids : List Nat) : (s.hold ids).port = s.port := rfl
@[simp] theorem State.hold_streams (s : State) (ids : List Nat) : (s.hold ids).streams = s.streams := rfl
@[simp] theorem State.hold_pool (s : State) (ids : List Nat) : (s.hold ids).pool = s.pool.hold ids := rfl
@[simp] theorem State.hold_requests (s : State) (ids : List Nat) : (s.hold ids).requests = s.requests := rfl
@[simp] theorem State.hold_recovery (s : State) (ids : List Nat) : (s.hold ids).recovery = s.recovery := rfl
@[simp] theorem State.hold_channels (s : State) (ids : List Nat) : (s.hold ids).channels = s.channels := rfl
@[simp] theorem State.hold_lanes (s : State) (ids : List Nat) : (s.hold ids).lanes = s.lanes := rfl
@[simp] theorem State.hold_relay (s : State) (ids : List Nat) : (s.hold ids).relay = s.relay := rfl
@[simp] theorem State.hold_du (s : State) (ids : List Nat) : (s.hold ids).du = s.du := rfl
@[simp] theorem State.hold_ident (s : State) (ids : List Nat) : (s.hold ids).ident = s.ident := rfl
@[simp] theorem State.hold_lines (s : State) (ids : List Nat) : (s.hold ids).lines = s.lines := rfl
@[simp] theorem State.hold_counters (s : State) (ids : List Nat) : (s.hold ids).counters = s.counters := rfl
@[simp] theorem State.hold_pending (s : State) (ids : List Nat) : (s.hold ids).pending = s.pending := rfl

/-! ### State.release -/

@[simp] theorem State.release_lc (s : State) (ids : List Nat) : (s.release ids).lc = s.lc := rfl
@[simp] theorem State.release_firstCycle (s : State) (ids : List Nat) : (s.release ids).firstCycle = s.firstCycle := rfl
@[simp] theorem State.release_tlu (s : State) (ids : List Nat) : (s.release ids).tlu = s.tlu := rfl
@[simp] theorem State.release_port (s : State) (ids : List Nat) : (s.release ids).port = s.port := rfl
@[simp] theorem State.release_streams (s : State) (ids : List Nat) : (s.release ids).streams = s.streams := rfl
@[simp] theorem State.release_pool (s : State) (ids : List Nat) : (s.release ids).pool = s.pool.release ids := rfl
@[simp] theorem State.release_requests (s : State) (ids : List Nat) : (s.release ids).requests = s.requests := rfl
@[simp] theorem State.release_recovery (s : State) (ids : List Nat) : (s.release ids).recovery = s.recovery := rfl
@[simp] theorem State.release_channels (s : State) (ids : List Nat) : (s.release ids).channels = s.channels := rfl
@[simp] theorem State.release_lanes (s : State) (ids : List Nat) : (s.release ids).lanes = s.lanes := rfl
@[simp] theorem State.release_relay (s : State) (ids : List Nat) : (s.release ids).relay = s.relay := rfl
@[simp] theorem State.release_du (s : State) (ids : List Nat) : (s.release ids).du = s.du := rfl
@[simp] theorem State.release_ident (s : State) (ids : List Nat) : (s.release ids).ident = s.ident := rfl
@[simp] theorem State.release_lines (s : State) (ids : List Nat) : (s.release ids).lines = s.lines := rfl
@[simp] theorem State.release_counters (s : State) (ids : List Nat) : (s.release ids).counters = s.counters := rfl
@[simp] theorem State.release_pending (s : State) (ids : List Nat) : (s.release ids).pending = s.pending := rfl

/-! ### State.handTo -/

@[simp] theorem State.handTo_lc (s : State) (cs : List Consumer) : (s.handTo cs).lc = s.lc := rfl
@[simp] theorem State.handTo_firstCycle (s : State) (cs : List Consumer) :
    (s.handTo cs).firstCycle = s.firstCycle := rfl
@[simp] theorem State.handTo_tlu (s : State) (cs : List Consumer) : (s.handTo cs).tlu = s.tlu := rfl
@[simp] theorem State.handTo_port (s : State) (cs : List Consumer) :
    (s.handTo cs).port = { s.port with handed := cs } := rfl
@[simp] theorem State.handTo_streams (s : State) (cs : List Consumer) : (s.handTo cs).streams = s.streams := rfl
@[simp] theorem State.handTo_pool (s : State) (cs : List Consumer) : (s.handTo cs).pool = s.pool := rfl
@[simp] theorem State.handTo_requests (s : State) (cs : List Consumer) : (s.handTo cs).requests = s.requests := rfl
@[simp] theorem State.handTo_recovery (s : State) (cs : List Consumer) : (s.handTo cs).recovery = s.recovery := rfl
@[simp] theorem State.handTo_channels (s : State) (cs : List Consumer) : (s.handTo cs).channels = s.channels := rfl
@[simp] theorem State.handTo_lanes (s : State) (cs : List Consumer) : (s.handTo cs).lanes = s.lanes := rfl
@[simp] theorem State.handTo_relay (s : State) (cs : List Consumer) : (s.handTo cs).relay = s.relay := rfl
@[simp] theorem State.handTo_du (s : State) (cs : List Consumer) : (s.handTo cs).du = s.du := rfl
@[simp] theorem State.handTo_ident (s : State) (cs : List Consumer) : (s.handTo cs).ident = s.ident := rfl
@[simp] theorem State.handTo_lines (s : State) (cs : List Consumer) : (s.handTo cs).lines = s.lines := rfl
@[simp] theorem State.handTo_counters (s : State) (cs : List Consumer) : (s.handTo cs).counters = s.counters := rfl
@[simp] theorem State.handTo_pending (s : State) (cs : List Consumer) : (s.handTo cs).pending = s.pending := rfl

/-! ### State.dropRequest -/

@[simp] theorem State.dropRequest_lc (s : State) (i : Fin 8) : (s.dropRequest i).lc = s.lc := rfl
@[simp] theorem State.dropRequest_firstCycle (s : State) (i : Fin 8) :
    (s.dropRequest i).firstCycle = s.firstCycle := rfl
@[simp] theorem State.dropRequest_tlu (s : State) (i : Fin 8) : (s.dropRequest i).tlu = s.tlu := rfl
@[simp] theorem State.dropRequest_port (s : State) (i : Fin 8) : (s.dropRequest i).port = s.port := rfl
@[simp] theorem State.dropRequest_streams (s : State) (i : Fin 8) : (s.dropRequest i).streams = s.streams := rfl
@[simp] theorem State.dropRequest_pool (s : State) (i : Fin 8) : (s.dropRequest i).pool = s.pool := rfl
@[simp] theorem State.dropRequest_requests (s : State) (i : Fin 8) :
    (s.dropRequest i).requests = s.requests.filter (fun j => j != i) := rfl
@[simp] theorem State.dropRequest_recovery (s : State) (i : Fin 8) : (s.dropRequest i).recovery = s.recovery := rfl
@[simp] theorem State.dropRequest_channels (s : State) (i : Fin 8) : (s.dropRequest i).channels = s.channels := rfl
@[simp] theorem State.dropRequest_lanes (s : State) (i : Fin 8) : (s.dropRequest i).lanes = s.lanes := rfl
@[simp] theorem State.dropRequest_relay (s : State) (i : Fin 8) : (s.dropRequest i).relay = s.relay := rfl
@[simp] theorem State.dropRequest_du (s : State) (i : Fin 8) : (s.dropRequest i).du = s.du := rfl
@[simp] theorem State.dropRequest_ident (s : State) (i : Fin 8) : (s.dropRequest i).ident = s.ident := rfl
@[simp] theorem State.dropRequest_lines (s : State) (i : Fin 8) : (s.dropRequest i).lines = s.lines := rfl
@[simp] theorem State.dropRequest_counters (s : State) (i : Fin 8) : (s.dropRequest i).counters = s.counters := rfl
@[simp] theorem State.dropRequest_pending (s : State) (i : Fin 8) : (s.dropRequest i).pending = s.pending := rfl

/-! ### State.updateChannels -/

@[simp] theorem State.updateChannels_lc (s : State) (m : BitVec 8) (g : Channel → Channel) :
    (s.updateChannels m g).lc = s.lc := rfl
@[simp] theorem State.updateChannels_firstCycle (s : State) (m : BitVec 8) (g : Channel → Channel) :
    (s.updateChannels m g).firstCycle = s.firstCycle := rfl
@[simp] theorem State.updateChannels_tlu (s : State) (m : BitVec 8) (g : Channel → Channel) :
    (s.updateChannels m g).tlu = s.tlu := rfl
@[simp] theorem State.updateChannels_port (s : State) (m : BitVec 8) (g : Channel → Channel) :
    (s.updateChannels m g).port = s.port := rfl
@[simp] theorem State.updateChannels_streams (s : State) (m : BitVec 8) (g : Channel → Channel) :
    (s.updateChannels m g).streams = s.streams := rfl
@[simp] theorem State.updateChannels_pool (s : State) (m : BitVec 8) (g : Channel → Channel) :
    (s.updateChannels m g).pool = s.pool := rfl
@[simp] theorem State.updateChannels_requests (s : State) (m : BitVec 8) (g : Channel → Channel) :
    (s.updateChannels m g).requests = s.requests := rfl
@[simp] theorem State.updateChannels_recovery (s : State) (m : BitVec 8) (g : Channel → Channel) :
    (s.updateChannels m g).recovery = s.recovery := rfl
@[simp] theorem State.updateChannels_channels (s : State) (m : BitVec 8) (g : Channel → Channel) :
    (s.updateChannels m g).channels = tab8 (fun c => if maskBit m c.val then g (s.channel c) else s.channel c) := rfl
@[simp] theorem State.updateChannels_lanes (s : State) (m : BitVec 8) (g : Channel → Channel) :
    (s.updateChannels m g).lanes = s.lanes := rfl
@[simp] theorem State.updateChannels_relay (s : State) (m : BitVec 8) (g : Channel → Channel) :
    (s.updateChannels m g).relay = s.relay := rfl
@[simp] theorem State.updateChannels_du (s : State) (m : BitVec 8) (g : Channel → Channel) :
    (s.updateChannels m g).du = s.du := rfl
@[simp] theorem State.updateChannels_ident (s : State) (m : BitVec 8) (g : Channel → Channel) :
    (s.updateChannels m g).ident = s.ident := rfl
@[simp] theorem State.updateChannels_lines (s : State) (m : BitVec 8) (g : Channel → Channel) :
    (s.updateChannels m g).lines = s.lines := rfl
@[simp] theorem State.updateChannels_counters (s : State) (m : BitVec 8) (g : Channel → Channel) :
    (s.updateChannels m g).counters = s.counters := rfl
@[simp] theorem State.updateChannels_pending (s : State) (m : BitVec 8) (g : Channel → Channel) :
    (s.updateChannels m g).pending = s.pending := rfl

/-! ### State.restartLeast -/

@[simp] theorem State.restartLeast_lc (s : State) : (s.restartLeast).lc = s.lc := rfl
@[simp] theorem State.restartLeast_firstCycle (s : State) : (s.restartLeast).firstCycle = s.firstCycle := rfl
@[simp] theorem State.restartLeast_tlu (s : State) : (s.restartLeast).tlu = s.tlu := rfl
@[simp] theorem State.restartLeast_port (s : State) : (s.restartLeast).port = s.port := rfl
@[simp] theorem State.restartLeast_streams (s : State) : (s.restartLeast).streams = s.streams := rfl
@[simp] theorem State.restartLeast_pool (s : State) :
    (s.restartLeast).pool = { s.pool with leastFree := s.pool.free } := rfl
@[simp] theorem State.restartLeast_requests (s : State) : (s.restartLeast).requests = s.requests := rfl
@[simp] theorem State.restartLeast_recovery (s : State) : (s.restartLeast).recovery = s.recovery := rfl
@[simp] theorem State.restartLeast_channels (s : State) : (s.restartLeast).channels = s.channels := rfl
@[simp] theorem State.restartLeast_lanes (s : State) : (s.restartLeast).lanes = s.lanes := rfl
@[simp] theorem State.restartLeast_relay (s : State) : (s.restartLeast).relay = s.relay := rfl
@[simp] theorem State.restartLeast_du (s : State) : (s.restartLeast).du = s.du := rfl
@[simp] theorem State.restartLeast_ident (s : State) : (s.restartLeast).ident = s.ident := rfl
@[simp] theorem State.restartLeast_lines (s : State) : (s.restartLeast).lines = s.lines := rfl
@[simp] theorem State.restartLeast_counters (s : State) : (s.restartLeast).counters = s.counters := rfl
@[simp] theorem State.restartLeast_pending (s : State) : (s.restartLeast).pending = s.pending := rfl

/-! ### Reading what was written -/

@[simp] theorem State.setStream_stream_self (s : State) (i : Fin 8) (st : Stream) : (s.setStream i st).stream i = st := by
  simp [State.stream]

theorem State.setStream_stream_ne (s : State) (i j : Fin 8) (st : Stream) (h : j ≠ i) :
    (s.setStream i st).stream j = s.stream j := by
  have h' : i.val ≠ j.val := fun e => h (Fin.ext e.symm)
  simp [State.stream, h']

theorem State.stream_set (s : State) (i j : Fin 8) (st : Stream) :
    (s.setStream i st).stream j = if j = i then st else s.stream j := by
  split
  · next h => subst h; simp
  · next h => exact s.setStream_stream_ne i j st h

@[simp] theorem State.setChannel_channel_self (s : State) (c : Fin 8) (ch : Channel) :
    (s.setChannel c ch).channel c = ch := by
  simp [State.channel]

theorem State.setChannel_channel_ne (s : State) (c d : Fin 8) (ch : Channel) (h : d ≠ c) :
    (s.setChannel c ch).channel d = s.channel d := by
  have h' : c.val ≠ d.val := fun e => h (Fin.ext e.symm)
  simp [State.channel, h']

@[simp] theorem Relay.setQueue_queue_self (r : Relay) (q : Fin 4) (rq : RelayQueue) : (r.setQueue q rq).queue q = rq := by
  simp [Relay.queue, Relay.setQueue]

theorem Relay.setQueue_queue_ne (r : Relay) (q p : Fin 4) (rq : RelayQueue) (h : p ≠ q) :
    (r.setQueue q rq).queue p = r.queue p := by
  have h' : q.val ≠ p.val := fun e => h (Fin.ext e.symm)
  simp [Relay.queue, Relay.setQueue, h']

@[simp] theorem Relay.setQueue_classMap (r : Relay) (q : Fin 4) (rq : RelayQueue) : (r.setQueue q rq).classMap = r.classMap := rfl
@[simp] theorem Relay.setQueue_sources (r : Relay) (q : Fin 4) (rq : RelayQueue) : (r.setQueue q rq).sources = r.sources := rfl
@[simp] theorem Relay.setQueue_wStream (r : Relay) (q : Fin 4) (rq : RelayQueue) : (r.setQueue q rq).wStream = r.wStream := rfl
@[simp] theorem Relay.setQueue_wClass (r : Relay) (q : Fin 4) (rq : RelayQueue) : (r.setQueue q rq).wClass = r.wClass := rfl
@[simp] theorem Relay.setQueue_wSource (r : Relay) (q : Fin 4) (rq : RelayQueue) : (r.setQueue q rq).wSource = r.wSource := rfl
@[simp] theorem Relay.setQueue_count (r : Relay) (q : Fin 4) (rq : RelayQueue) : (r.setQueue q rq).count = r.count := rfl
@[simp] theorem Relay.setQueue_map (r : Relay) (q : Fin 4) (rq : RelayQueue) : (r.setQueue q rq).map = r.map := rfl
@[simp] theorem Relay.setQueue_pointer (r : Relay) (q : Fin 4) (rq : RelayQueue) : (r.setQueue q rq).pointer = r.pointer := rfl
@[simp] theorem Relay.setQueue_tx (r : Relay) (q : Fin 4) (rq : RelayQueue) : (r.setQueue q rq).tx = r.tx := rfl
@[simp] theorem Relay.setQueue_margin (r : Relay) (q : Fin 4) (rq : RelayQueue) : (r.setQueue q rq).margin = r.margin := rfl
@[simp] theorem Relay.setQueue_interval (r : Relay) (q : Fin 4) (rq : RelayQueue) : (r.setQueue q rq).interval = r.interval := rfl
@[simp] theorem Relay.setQueue_timer (r : Relay) (q : Fin 4) (rq : RelayQueue) : (r.setQueue q rq).timer = r.timer := rfl
@[simp] theorem Relay.setQueue_beatPending (r : Relay) (q : Fin 4) (rq : RelayQueue) : (r.setQueue q rq).beatPending = r.beatPending := rfl
@[simp] theorem Relay.setQueue_link (r : Relay) (q : Fin 4) (rq : RelayQueue) : (r.setQueue q rq).link = r.link := rfl
@[simp] theorem Relay.setQueue_satDet (r : Relay) (q : Fin 4) (rq : RelayQueue) : (r.setQueue q rq).satDet = r.satDet := rfl
@[simp] theorem Relay.setQueue_cellOrigin (r : Relay) (q : Fin 4) (rq : RelayQueue) : (r.setQueue q rq).cellOrigin = r.cellOrigin := rfl
@[simp] theorem Relay.setQueue_upFor (r : Relay) (q : Fin 4) (rq : RelayQueue) : (r.setQueue q rq).upFor = r.upFor := rfl

/-! ### A transmission that starts -/

@[simp] theorem Relay.begin_classMap (r : Relay) (now : Time) (e : Option RelayEntry) (f : List Byte) (n : Nat) :
    (r.begin now e f n).classMap = r.classMap := rfl
@[simp] theorem Relay.begin_sources (r : Relay) (now : Time) (e : Option RelayEntry) (f : List Byte) (n : Nat) :
    (r.begin now e f n).sources = r.sources := rfl
@[simp] theorem Relay.begin_wStream (r : Relay) (now : Time) (e : Option RelayEntry) (f : List Byte) (n : Nat) :
    (r.begin now e f n).wStream = r.wStream := rfl
@[simp] theorem Relay.begin_wClass (r : Relay) (now : Time) (e : Option RelayEntry) (f : List Byte) (n : Nat) :
    (r.begin now e f n).wClass = r.wClass := rfl
@[simp] theorem Relay.begin_wSource (r : Relay) (now : Time) (e : Option RelayEntry) (f : List Byte) (n : Nat) :
    (r.begin now e f n).wSource = r.wSource := rfl
@[simp] theorem Relay.begin_count (r : Relay) (now : Time) (e : Option RelayEntry) (f : List Byte) (n : Nat) :
    (r.begin now e f n).count = r.count := rfl
@[simp] theorem Relay.begin_map (r : Relay) (now : Time) (e : Option RelayEntry) (f : List Byte) (n : Nat) :
    (r.begin now e f n).map = r.map := rfl
@[simp] theorem Relay.begin_queues (r : Relay) (now : Time) (e : Option RelayEntry) (f : List Byte) (n : Nat) :
    (r.begin now e f n).queues = r.queues := rfl
@[simp] theorem Relay.begin_pointer (r : Relay) (now : Time) (e : Option RelayEntry) (f : List Byte) (n : Nat) :
    (r.begin now e f n).pointer = r.pointer := rfl
@[simp] theorem Relay.begin_tx (r : Relay) (now : Time) (e : Option RelayEntry) (f : List Byte) (n : Nat) :
    (r.begin now e f n).tx = some ⟨e, now, n, f⟩ := rfl
@[simp] theorem Relay.begin_margin (r : Relay) (now : Time) (e : Option RelayEntry) (f : List Byte) (n : Nat) :
    (r.begin now e f n).margin = r.margin := rfl
@[simp] theorem Relay.begin_interval (r : Relay) (now : Time) (e : Option RelayEntry) (f : List Byte) (n : Nat) :
    (r.begin now e f n).interval = r.interval := rfl
@[simp] theorem Relay.begin_timer (r : Relay) (now : Time) (e : Option RelayEntry) (f : List Byte) (n : Nat) :
    (r.begin now e f n).timer = r.timer := rfl
@[simp] theorem Relay.begin_beatPending (r : Relay) (now : Time) (e : Option RelayEntry) (f : List Byte) (n : Nat) :
    (r.begin now e f n).beatPending = r.beatPending := rfl
@[simp] theorem Relay.begin_link (r : Relay) (now : Time) (e : Option RelayEntry) (f : List Byte) (n : Nat) :
    (r.begin now e f n).link = r.link := rfl
@[simp] theorem Relay.begin_satDet (r : Relay) (now : Time) (e : Option RelayEntry) (f : List Byte) (n : Nat) :
    (r.begin now e f n).satDet = r.satDet := rfl
@[simp] theorem Relay.begin_cellOrigin (r : Relay) (now : Time) (e : Option RelayEntry) (f : List Byte) (n : Nat) :
    (r.begin now e f n).cellOrigin = now := rfl
@[simp] theorem Relay.begin_upFor (r : Relay) (now : Time) (e : Option RelayEntry) (f : List Byte) (n : Nat) :
    (r.begin now e f n).upFor = r.upFor := rfl

/-- Streams, channels and counters through updates of other fields. -/
theorem State.stream_congr {s t : State} (h : t.streams = s.streams) (i : Fin 8) : t.stream i = s.stream i := by
  simp [State.stream, h]

theorem State.channel_congr {s t : State} (h : t.channels = s.channels) (c : Fin 8) : t.channel c = s.channel c := by
  simp [State.channel, h]

theorem PartCounter.idx_injective {c d : PartCounter} (h : c.idx = d.idx) : c = d := by
  revert h; cases c <;> cases d <;> decide

theorem StreamCounter.idx_injective {c d : StreamCounter} (h : c.idx = d.idx) : c = d := by
  revert h; cases c <;> cases d <;> decide

@[simp] theorem State.bump_partCount_self (s : State) (c : PartCounter) :
    (s.bump c).partCount c = satInc (s.partCount c) := by
  simp [State.partCount]

theorem State.bump_partCount_ne (s : State) (c d : PartCounter) (h : d ≠ c) : (s.bump c).partCount d = s.partCount d := by
  have h' : c.idx.val ≠ d.idx.val := fun e => h (PartCounter.idx_injective (Fin.ext e.symm))
  simp [State.partCount, h']

@[simp] theorem State.bumpStream_stream_self (s : State) (i : Fin 8) (c : StreamCounter) :
    (s.bumpStream i c).stream i = { s.stream i with
      counters := (s.stream i).counters.set c.idx (satInc ((s.stream i).count c)) } :=
  s.setStream_stream_self i _

theorem State.bumpStream_stream_ne (s : State) (i j : Fin 8) (c : StreamCounter) (h : j ≠ i) :
    (s.bumpStream i c).stream j = s.stream j :=
  s.setStream_stream_ne i j _ h

/-- A count never passes 2^32 - 1 and never falls (00_scope.md section 5.3). -/
theorem satInc_le {n : Nat} (h : n ≤ 4294967295) : satInc n ≤ 4294967295 := by
  unfold satInc Config.counterMax; split <;> omega

theorem le_satInc (n : Nat) : n ≤ satInc n := by
  unfold satInc; split <;> omega

end Sys2Proof.Machine
end

