-- ==== Sys2Proof/Laws/Ops.lean ====
section
/-! SUPPORT. What each shared operation can do, said once: the cell pool's operations and the canonical form they keep, and the
operations that count, raise, offer, notify and end an event. -/

namespace Sys2Proof.Machine

/-! ## The pool's canonical form (R67) -/

theorem wfCells_cons {lo : Nat} {c : Cell} {cs : List Cell} :
    wfCells lo (c :: cs) = true
      ↔ lo ≤ c.id ∧ c.id < 1024 ∧ 1 ≤ c.holders ∧ c.holders ≤ 2 ∧ wfCells (c.id + 1) cs = true := by
  simp only [wfCells, Bool.and_eq_true, decide_eq_true_eq, and_assoc]
  exact Iff.rfl

/-- Cells formed from a number on are formed from any lower one. -/
theorem wfCells_lower {lo lo' : Nat} {cs : List Cell} (h : wfCells lo cs = true) (hl : lo' ≤ lo) :
    wfCells lo' cs = true := by
  cases cs with
  | nil => rfl
  | cons c cs => rw [wfCells_cons] at h ⊢; exact ⟨by omega, h.2⟩

theorem wfCells_ge {lo : Nat} {cs : List Cell} (h : wfCells lo cs = true) : ∀ c ∈ cs, lo ≤ c.id ∧ c.id < 1024 := by
  induction cs generalizing lo with
  | nil => simp
  | cons c cs ih =>
    rw [wfCells_cons] at h
    intro x hx
    rcases List.mem_cons.mp hx with rfl | hx
    · exact ⟨h.1, h.2.1⟩
    · have := ih h.2.2.2.2 x hx; omega

/-- The cells held have distinct numbers. -/
theorem wfCells_nodup {lo : Nat} {cs : List Cell} (h : wfCells lo cs = true) : (cs.map (fun c => c.id)).Nodup := by
  induction cs generalizing lo with
  | nil => simp
  | cons c cs ih =>
    rw [wfCells_cons] at h
    rw [List.map_cons, List.nodup_cons]
    refine ⟨?_, ih h.2.2.2.2⟩
    intro hm
    obtain ⟨x, hx, he⟩ := List.mem_map.mp hm
    have := wfCells_ge h.2.2.2.2 x hx
    omega

/-- The part's pool after reset is in the canonical form. -/
theorem reset_pool_wf : State.reset.pool.wf = true := by decide

/-! ## Allocation (R68) -/

theorem takeFree_id_ge (o : Option (Fin 8)) (ws : List Word) (n : Nat) (cs : List Cell) :
    n ≤ (takeFree o ws n cs).1 ∧ (takeFree o ws n cs).1 ≤ n + cs.length := by
  induction cs generalizing n with
  | nil => simp [takeFree]
  | cons c cs ih =>
    unfold takeFree
    split
    · have := ih (n + 1); simp only [List.length_cons]; omega
    · simp

theorem takeFree_length (o : Option (Fin 8)) (ws : List Word) (n : Nat) (cs : List Cell) :
    (takeFree o ws n cs).2.length = cs.length + 1 := by
  induction cs generalizing n with
  | nil => simp [takeFree]
  | cons c cs ih => unfold takeFree; split <;> simp [ih]

/-- The held cells after an allocation: those before it and the new one, with one holder. -/
theorem mem_takeFree (o : Option (Fin 8)) (ws : List Word) (n : Nat) (cs : List Cell) (x : Cell) :
    x ∈ (takeFree o ws n cs).2 ↔ x = ⟨(takeFree o ws n cs).1, 1, o, ws⟩ ∨ x ∈ cs := by
  induction cs generalizing n with
  | nil => simp [takeFree]
  | cons c cs ih =>
    unfold takeFree
    split
    · simp only [List.mem_cons, ih]
      constructor
      · rintro (h | h | h)
        · exact .inr (.inl h)
        · exact .inl h
        · exact .inr (.inr h)
      · rintro (h | h | h)
        · exact .inr (.inl h)
        · exact .inl h
        · exact .inr (.inr h)
    · simp

/-- The number taken was free. -/
theorem takeFree_fresh {o : Option (Fin 8)} {ws : List Word} {n : Nat} {cs : List Cell} (h : wfCells n cs = true) :
    ∀ c ∈ cs, c.id ≠ (takeFree o ws n cs).1 := by
  induction cs generalizing n with
  | nil => simp
  | cons c cs ih =>
    rw [wfCells_cons] at h
    intro x hx
    unfold takeFree
    split
    · next he =>
      have h1 : wfCells (n + 1) cs = true := he ▸ h.2.2.2.2
      rcases List.mem_cons.mp hx with rfl | hx
      · have := (takeFree_id_ge o ws (n + 1) cs).1; simp only; omega
      · exact (ih h1 x hx)
    · next he =>
      rcases List.mem_cons.mp hx with rfl | hx
      · exact he
      · have := wfCells_ge h.2.2.2.2 x hx; simp only; omega

theorem takeFree_wf {o : Option (Fin 8)} {ws : List Word} {n : Nat} {cs : List Cell} (h : wfCells n cs = true)
    (hn : n + cs.length < 1024) : wfCells n (takeFree o ws n cs).2 = true := by
  induction cs generalizing n with
  | nil => simp only [takeFree]; rw [wfCells_cons]; simp at hn; simp [wfCells]; omega
  | cons c cs ih =>
    rw [wfCells_cons] at h
    simp only [List.length_cons] at hn
    unfold takeFree
    split
    · next he =>
      have h1 : wfCells (n + 1) cs = true := he ▸ h.2.2.2.2
      have h2 := ih h1 (by omega)
      simp only
      rw [wfCells_cons, he]
      exact ⟨Nat.le_refl n, he ▸ h.2.1, h.2.2.1, h.2.2.2.1, h2⟩
    · next he =>
      simp only
      rw [wfCells_cons]
      refine ⟨Nat.le_refl _, by simp only; omega, by simp, by simp, ?_⟩
      rw [wfCells_cons]
      exact ⟨by simp only; omega, h.2⟩

theorem takeFree_charged (o : Option (Fin 8)) (ws : List Word) (n : Nat) (cs : List Cell) (i : Fin 8) :
    (takeFree o ws n cs).2.countP (fun c => c.owner == some i)
      = cs.countP (fun c => c.owner == some i) + (if o = some i then 1 else 0) := by
  induction cs generalizing n with
  | nil => simp [takeFree, List.countP_cons]
  | cons c cs ih =>
    unfold takeFree
    split
    · simp [List.countP_cons, ih]; omega
    · simp [List.countP_cons]

/-- Everything an allocation of `cells` can do: as many numbers, as many cells fewer free, as many more charged to the
owner and none to another; and the pool stays in its canonical form when it had room. -/
theorem Pool.alloc_spec (o : Option (Fin 8)) (cells : List (List Word)) (p : Pool) :
    (p.alloc o cells).1.length = cells.length
      ∧ (p.alloc o cells).2.held.length = p.held.length + cells.length
      ∧ (p.alloc o cells).2.lowWater = p.lowWater
      ∧ (∀ c ∈ p.held, c ∈ (p.alloc o cells).2.held)
      ∧ (∀ i : Fin 8, (p.alloc o cells).2.charged i = p.charged i + (if o = some i then cells.length else 0))
      ∧ (p.wf = true → p.held.length + cells.length ≤ 1024 → (p.alloc o cells).2.wf = true) := by
  induction cells generalizing p with
  | nil => simp +contextual [Pool.alloc]
  | cons ws rest ih =>
    have e := ih { p with
      held := (takeFree o ws 0 p.held).2
      leastFree := min p.leastFree (Pool.free { p with held := (takeFree o ws 0 p.held).2 }) }
    simp only [Pool.charged, Pool.wf, takeFree_length, takeFree_charged, mem_takeFree] at e
    obtain ⟨h1, h2, h3, h4, h5, h6⟩ := e
    refine ⟨?_, ?_, ?_, ?_, ?_, ?_⟩
    · simpa [Pool.alloc] using h1
    · simp only [Pool.alloc, List.length_cons]; rw [h2]; omega
    · simpa [Pool.alloc] using h3
    · intro c hc; exact h4 c (.inr hc)
    · intro i
      simp only [Pool.alloc, List.length_cons, Pool.charged]
      rw [h5 i]; split <;> omega
    · intro hw hl
      simp only [Pool.alloc, Pool.wf, List.length_cons] at hw hl ⊢
      exact h6 (takeFree_wf hw (by omega)) (by omega)

/-- Allocating at the State level: the pool as `Pool.alloc` leaves it, STORE_LOW raised when it is low, nothing else (R68,
R71). -/
theorem State.alloc_spec (o : Option (Fin 8)) (cells : List (List Word)) (s : State) :
    (s.alloc o cells).1 = (s.pool.alloc o cells).1
      ∧ (s.alloc o cells).2 = (if (s.pool.alloc o cells).2.low then
          ({ s with pool := (s.pool.alloc o cells).2 }).raisePart .storeLow else { s with pool := (s.pool.alloc o cells).2 }) :=
  ⟨rfl, rfl⟩

/-! ## Hold, release, detachment, writing (R69, R48, R101) -/

theorem holdCell_wf {id lo : Nat} {cs : List Cell} (h : wfCells lo cs = true)
    (h1 : ∀ c ∈ cs, c.id = id → c.holders ≤ 1) : wfCells lo (holdCell id cs) = true := by
  induction cs generalizing lo with
  | nil => rfl
  | cons c cs ih =>
    rw [wfCells_cons] at h
    unfold holdCell
    split
    · next he =>
      have := h1 c (by simp) he
      rw [wfCells_cons]
      exact ⟨h.1, h.2.1, by simp, by simp only; omega, h.2.2.2.2⟩
    · rw [wfCells_cons]
      exact ⟨h.1, h.2.1, h.2.2.1, h.2.2.2.1, ih h.2.2.2.2 (fun x hx => h1 x (by simp [hx]))⟩

theorem releaseCell_wf {id lo : Nat} {cs : List Cell} (h : wfCells lo cs = true) :
    wfCells lo (releaseCell id cs) = true := by
  induction cs generalizing lo with
  | nil => rfl
  | cons c cs ih =>
    rw [wfCells_cons] at h
    unfold releaseCell
    split
    · split
      · exact wfCells_lower h.2.2.2.2 (by omega)
      · rw [wfCells_cons]
        exact ⟨h.1, h.2.1, by simp only; omega, by simp only; omega, h.2.2.2.2⟩
    · rw [wfCells_cons]
      exact ⟨h.1, h.2.1, h.2.2.1, h.2.2.2.1, ih h.2.2.2.2⟩

theorem releaseCell_charged (id : Nat) (cs : List Cell) (i : Fin 8) :
    (releaseCell id cs).countP (fun c => c.owner == some i) ≤ cs.countP (fun c => c.owner == some i) := by
  induction cs with
  | nil => simp [releaseCell]
  | cons c cs ih =>
    unfold releaseCell
    split
    · split
      · simp [List.countP_cons]
      · simp [List.countP_cons]
    · simp only [List.countP_cons]; omega

theorem holdCell_charged (id : Nat) (cs : List Cell) (i : Fin 8) :
    (holdCell id cs).countP (fun c => c.owner == some i) = cs.countP (fun c => c.owner == some i) := by
  induction cs with
  | nil => simp [holdCell]
  | cons c cs ih => unfold holdCell; split <;> simp [List.countP_cons, ih]

theorem releaseCell_length (id : Nat) (cs : List Cell) : (releaseCell id cs).length ≤ cs.length := by
  induction cs with
  | nil => simp [releaseCell]
  | cons c cs ih => unfold releaseCell; split <;> (try split) <;> simp; omega

/-- A release keeps the canonical form, frees no fewer cells and charges no more. -/
theorem Pool.release_spec (ids : List Nat) (p : Pool) :
    (p.wf = true → (p.release ids).wf = true) ∧ p.free ≤ (p.release ids).free
      ∧ (∀ i : Fin 8, (p.release ids).charged i ≤ p.charged i)
      ∧ (p.release ids).lowWater = p.lowWater ∧ (p.release ids).leastFree = p.leastFree := by
  refine ⟨?_, ?_, ?_, rfl, rfl⟩
  · simp only [Pool.wf, Pool.release]
    generalize p.held = cs
    intro h
    induction ids generalizing cs with
    | nil => exact h
    | cons id ids ih => exact ih _ (releaseCell_wf h)
  · simp only [Pool.free, Pool.release]
    generalize p.held = cs
    induction ids generalizing cs with
    | nil => exact Nat.le_refl _
    | cons id ids ih =>
      have := ih (releaseCell id cs)
      have := releaseCell_length id cs
      simp only [List.foldl_cons]; omega
  · intro i
    simp only [Pool.charged, Pool.release]
    generalize p.held = cs
    induction ids generalizing cs with
    | nil => exact Nat.le_refl _
    | cons id ids ih => exact Nat.le_trans (ih _) (releaseCell_charged id cs i)

/-- Releases in turn are the release of the lists joined. -/
theorem Pool.release_append (a b : List Nat) (p : Pool) : p.release (a ++ b) = (p.release a).release b := by
  simp [Pool.release]

/-- A hold charges nothing. -/
theorem Pool.hold_charged (ids : List Nat) (p : Pool) (i : Fin 8) : (p.hold ids).charged i = p.charged i := by
  simp only [Pool.charged, Pool.hold]
  generalize p.held = cs
  induction ids generalizing cs with
  | nil => rfl
  | cons id ids ih => exact (ih _).trans (holdCell_charged id cs i)

/-- A hold of distinct cells that each have one holder keeps the canonical form. -/
theorem Pool.hold_wf (ids : List Nat) (p : Pool) (h : p.wf = true) (hd : ids.Nodup)
    (h1 : ∀ c ∈ p.held, c.id ∈ ids → c.holders ≤ 1) : (p.hold ids).wf = true := by
  simp only [Pool.wf, Pool.hold] at *
  revert h h1
  generalize p.held = cs
  induction ids generalizing cs with
  | nil => intro h _; exact h
  | cons id ids ih =>
    intro h h1
    rw [List.nodup_cons] at hd
    refine ih hd.2 _ (holdCell_wf h (fun c hc he => h1 c hc (by simp [he]))) ?_
    have key : ∀ (l : List Cell) (c : Cell), c ∈ holdCell id l → c.id ∈ ids → c ∈ l := by
      intro l
      induction l with
      | nil => simp [holdCell]
      | cons x l ihl =>
        intro c hc hi
        unfold holdCell at hc
        split at hc
        · next hx =>
          rcases List.mem_cons.mp hc with rfl | hc
          · exact absurd (by simpa [hx] using hi) hd.1
          · simp [hc]
        · rcases List.mem_cons.mp hc with rfl | hc
          · simp
          · simp [ihl c hc hi]
    intro c hc hi
    exact h1 c (key cs c hc hi) (by simp [hi])

/-- A stream's cells losing their owner keep the canonical form, their number and their contents (R48). -/
theorem Pool.detach_spec (i : Fin 8) (p : Pool) :
    (p.wf = true → (p.detach i).wf = true) ∧ (p.detach i).free = p.free ∧ (p.detach i).charged i = 0
      ∧ (∀ j : Fin 8, j ≠ i → (p.detach i).charged j = p.charged j) := by
  refine ⟨?_, by simp [Pool.detach, Pool.free], ?_, ?_⟩
  · simp only [Pool.wf, Pool.detach]
    generalize p.held = cs
    generalize 0 = lo
    intro h
    induction cs generalizing lo with
    | nil => rfl
    | cons c cs ih =>
      rw [wfCells_cons] at h
      rw [List.map_cons, wfCells_cons]
      split
      · exact ⟨h.1, h.2.1, h.2.2.1, h.2.2.2.1, ih _ h.2.2.2.2⟩
      · exact ⟨h.1, h.2.1, h.2.2.1, h.2.2.2.1, ih _ h.2.2.2.2⟩
  · simp only [Pool.charged, Pool.detach]
    generalize p.held = cs
    induction cs with
    | nil => rfl
    | cons c cs ih => rw [List.map_cons, List.countP_cons, ih]; by_cases h : c.owner = some i <;> simp [h]
  · intro j hj
    simp only [Pool.charged, Pool.detach]
    generalize p.held = cs
    induction cs with
    | nil => rfl
    | cons c cs ih =>
      rw [List.map_cons, List.countP_cons, List.countP_cons, ih]
      by_cases h : c.owner = some i
      · have h2 : ¬i = j := fun e => hj e.symm
        simp [h, h2]
      · simp [h]

theorem writeCell_wf {id lo : Nat} {ws : List Word} {cs : List Cell} (h : wfCells lo cs = true) :
    wfCells lo (writeCell id ws cs) = true := by
  induction cs generalizing lo with
  | nil => rfl
  | cons c cs ih =>
    rw [wfCells_cons] at h
    unfold writeCell
    split
    · rw [wfCells_cons]; exact h
    · rw [wfCells_cons]; exact ⟨h.1, h.2.1, h.2.2.1, h.2.2.2.1, ih h.2.2.2.2⟩

theorem writeCell_charged (id : Nat) (ws : List Word) (cs : List Cell) (i : Fin 8) :
    (writeCell id ws cs).countP (fun c => c.owner == some i) = cs.countP (fun c => c.owner == some i) := by
  induction cs with
  | nil => simp [writeCell]
  | cons c cs ih => unfold writeCell; split <;> simp [List.countP_cons, ih]

/-- Writing words keeps the canonical form and every charge. -/
theorem Pool.write_spec (ids : List Nat) (ws : List Word) (p : Pool) :
    (p.wf = true → (p.write ids ws).wf = true) ∧ ∀ i : Fin 8, (p.write ids ws).charged i = p.charged i := by
  induction ids generalizing p ws with
  | nil => exact ⟨fun h => h, fun _ => rfl⟩
  | cons id ids ih =>
    have e := ih (ws.drop Config.cellWords) { p with held := writeCell id (cellOf ws) p.held }
    exact ⟨fun h => e.1 (writeCell_wf h), fun i => (e.2 i).trans (writeCell_charged id _ p.held i)⟩

/-! ## Counting, raising, offering, and the end of an event -/

/-- Raising a part code touches the attention set and the gathering alone; the code is set, no other changes (R174, R177). -/
theorem State.raisePart_spec (c : PartCode) (s : State) :
    (s.raisePart c).partSet c = true ∧ (∀ d : PartCode, d ≠ c → (s.raisePart c).partSet d = s.partSet d)
      ∧ s.raisePart c = { s with du := { s.du with
          attention := (s.raisePart c).du.attention, gathered := (s.raisePart c).du.gathered } } := by
  by_cases h : s.partSet c = true
  · simp [State.raisePart, h]
  · rw [State.raisePart, if_neg h]
    refine ⟨?_, ?_, rfl⟩
    · cases c <;> simp [State.partSet, PartCode.bit]
    · intro d hd
      cases c <;> cases d <;> first | exact absurd rfl hd | simp [State.partSet, PartCode.bit]

/-- REPORT_DROP gathers nothing (R177). -/
theorem State.raisePart_reportDrop_gathered (s : State) :
    (s.raisePart .reportDrop).du.gathered = s.du.gathered := by
  unfold State.raisePart; split <;> simp

/-- A frame offered to the report queue is placed at its tail, or counted and REPORT_DROP raised (R173). -/
theorem State.offerReport_spec (f : List Byte) (s : State) :
    (s.du.reportQueue.length < 8 →
        s.offerReport f = (true, { s with du := { s.du with reportQueue := s.du.reportQueue ++ [f] } }))
      ∧ (8 ≤ s.du.reportQueue.length → s.offerReport f = (false, (s.bump .reportDrop).raisePart .reportDrop)) := by
  constructor
  · intro h; simp [State.offerReport, Config.reportPlaces, h]
  · intro h
    have h' : ¬s.du.reportQueue.length < 8 := by omega
    simp [State.offerReport, Config.reportPlaces, h']

/-- Whatever is offered, the report queue keeps its bound (R173). -/
theorem State.offerReport_bounded (f : List Byte) (s : State) (h : ReportBounded s) :
    ReportBounded (s.offerReport f).2 := by
  unfold ReportBounded at *
  unfold State.offerReport
  split
  · next hl => simp only [Config.reportPlaces] at hl; simp; omega
  · have e := ((s.bump .reportDrop).raisePart_spec .reportDrop).2.2
    simp only
    rw [e]
    simpa using h

/-- An event in which nothing was gathered ends as it stands (R177). -/
theorem State.endEvent_quiet (s : State) (h : s.du.gathered = false) : s.endEvent = s := by
  simp [State.endEvent, h]

/-- After the end of an event nothing is gathered (R177, DESIGN CHOICE, log 28). -/
theorem State.endEvent_noneGathered (s : State) : NoneGathered s.endEvent := by
  unfold NoneGathered State.endEvent
  split
  · unfold State.sendNotice State.offerReport
    simp only
    split <;> simp [State.raisePart_reportDrop_gathered]
  · next h => simpa using h

/-! ## Bytes shifted in (R28) -/

@[simp] theorem Filling.of_nil : Filling.of [] = ⟨[], 0⟩ := rfl

/-- A further byte shifts into the buffer that the bytes before it have filled. -/
theorem Filling.of_append (bytes : List Byte) (b : Byte) :
    Filling.of (bytes ++ [b]) = (Filling.of bytes).shiftIn b := by
  have hr : (Filling.of bytes).received = min bytes.length 65535 := rfl
  have hs : (Filling.of bytes).stored = bytes.take 1536 := rfl
  have ht : (bytes ++ [b]).length = bytes.length + 1 := by simp
  unfold Filling.shiftIn
  rw [hr, hs]
  unfold Filling.of
  simp only [Config.bufferBytes, Config.receivedMax, Filling.mk.injEq, ht]
  constructor
  · by_cases h : bytes.length < 1536
    · simp [show min bytes.length 65535 < 1536 by omega, List.take_of_length_le, show bytes.length ≤ 1536 by omega,
        show bytes.length + 1 ≤ 1536 by omega]
    · simp [show ¬min bytes.length 65535 < 1536 by omega, List.take_append_of_le_length,
        show 1536 ≤ bytes.length by omega]
  · by_cases h : bytes.length < 65535
    · simp [h]; omega
    · simp [h]; omega

/-- What a buffer holds of a frame that passes the size test is the frame. -/
theorem Filling.of_frame (bytes : List Byte) (h : bytes.length ≤ 1460) : Filling.of bytes = ⟨bytes, bytes.length⟩ := by
  simp only [Filling.of, Config.bufferBytes, Config.receivedMax, Filling.mk.injEq]
  exact ⟨List.take_of_length_le (by omega), by omega⟩

/-! ## Taking the head frame, rings and tables -/

/-- A block that is the only consumer and is the one to take the head frame runs on it with the buffer FREE (R31). -/
theorem State.take_only (c : Consumer) (k : InFrame → State → State) (s : State) (f : InFrame) (rest : List InFrame)
    (h : s.port.intake = f :: rest) (hc : s.port.handed = [c]) : s.take c k = k f (headTaken s) := by
  simp [State.take, Port.offered, h, hc, State.setPort, Port.freeHead, headTaken]

/-- A block that is not the one to take the head frame takes nothing (R31, R36). -/
theorem State.take_none (c : Consumer) (k : InFrame → State → State) (s : State) (h : s.port.offered c = none) :
    s.take c k = s := by
  simp [State.take, h]

@[simp] theorem Stream.putSlot_state (st : Stream) (p : Nat) (sl : Slot) : (st.putSlot p sl).state = st.state := rfl
@[simp] theorem Stream.putSlot_anchor (st : Stream) (p : Nat) (sl : Slot) : (st.putSlot p sl).anchor = st.anchor := rfl
@[simp] theorem Stream.putSlot_holder (st : Stream) (p : Nat) (sl : Slot) : (st.putSlot p sl).holder = st.holder := rfl
@[simp] theorem Stream.putSlot_depth (st : Stream) (p : Nat) (sl : Slot) : (st.putSlot p sl).depth = st.depth := rfl

/-- The slot that was put stands at its position; every other is as it was. -/
theorem Stream.putSlot_slotAt (st : Stream) (p q : Nat) (sl : Slot) (h : p < st.ring.length) :
    (st.putSlot p sl).slotAt q = if q = p then sl else st.slotAt q := by
  unfold Stream.putSlot Stream.slotAt
  split
  · next e => subst e; simp [List.getD_eq_getElem?_getD, h]
  · next e => simp [List.getD_eq_getElem?_getD, Ne.symm e]

@[simp] theorem tab8_get {α : Type} (f : Fin 8 → α) (i : Fin 8) : (tab8 f)[i] = f i := by
  fin_cases i <;> rfl

@[simp] theorem map8_get {α β : Type} (f : α → β) (v : Vector α 8) (i : Fin 8) : (map8 f v)[i] = f v[i] := by
  fin_cases i <;> rfl

@[simp] theorem tab4_get {α : Type} (f : Fin 4 → α) (i : Fin 4) : (tab4 f)[i] = f i := by
  fin_cases i <;> rfl

@[simp] theorem map4_get {α β : Type} (f : α → β) (v : Vector α 4) (i : Fin 4) : (map4 f v)[i] = f v[i] := by
  fin_cases i <;> rfl

/-- Changing the channels in a mask changes those and no other (R129, R195). -/
theorem State.updateChannels_channel (mask : BitVec 8) (g : Channel → Channel) (s : State) (c : Fin 8) :
    (s.updateChannels mask g).channel c = if mask.getLsbD c.val = true then g (s.channel c) else s.channel c := by
  simp only [State.channel, State.updateChannels_channels]
  exact tab8_get _ c

/-- One ramp step keeps a gain within any bound that holds of it and of its target (R133, R135). -/
theorem rampStep_le {gain target hi : Nat} (hg : gain ≤ hi) (ht : target ≤ hi) : rampStep gain target ≤ hi := by
  unfold rampStep; split <;> split <;> omega

/-- The new rate lies within its range, or is the old one (R13). -/
theorem Tlu.newRate_bounded (t : Tlu) (m close : Time) (h : -4096 ≤ t.rate ∧ t.rate ≤ 4096) :
    -4096 ≤ t.newRate m close ∧ t.newRate m close ≤ 4096 := by
  unfold Tlu.newRate
  split
  · exact h
  · simp only
    split
    · unfold clampInt; split <;> (try split) <;> omega
    · exact h

/-- The bytes of a value come back as the value, taken modulo what they can hold. -/
theorem leNat_leBytes (n v : Nat) : leNat (leBytes n v) = v % 256 ^ n := by
  induction n generalizing v with
  | zero => simp [leBytes, leNat, Nat.mod_one]
  | succ n ih =>
    simp only [leBytes, leNat, ih, BitVec.toNat_ofNat, Nat.mod_mod]
    rw [Nat.pow_succ, Nat.mul_comm (256 ^ n) 256, Nat.mod_mul]

@[simp] theorem leBytes_length (n v : Nat) : (leBytes n v).length = n := by
  induction n generalizing v with
  | zero => rfl
  | succ n ih => simp [leBytes, ih]

@[simp] theorem closed_length (bs : List Byte) : (closed bs).length = bs.length + 4 := by
  simp [closed, crcTrailer]

/-! ## The parity holder, the recovery target and receptions -/

/-- The holder test (R96): nothing to test, or the holder is emptied and counted by its class, or the request joins or stands, or
it leaves. -/
theorem State.holderTest_cases (i : Fin 8) (s : State) :
    ((s.stream i).holder = none ∨ (s.stream i).anchor = none) ∧ s.holderTest i = s
      ∨ ∃ h an, (s.stream i).holder = some h ∧ (s.stream i).anchor = some an ∧
        ((s.stream i).classGroup an h.first h.g = .expired ∧ s.holderTest i = (s.emptyHolder i).bumpStream i .parityExpired
        ∨ (s.stream i).classGroup an h.first h.g = .complete ∧ s.holderTest i = (s.emptyHolder i).bumpStream i .groupComplete
        ∨ (s.stream i).classGroup an h.first h.g = .recoverable ∧ i ∈ s.requests ∧ s.holderTest i = s
        ∨ (s.stream i).classGroup an h.first h.g = .recoverable ∧ i ∉ s.requests
          ∧ s.holderTest i = ({ s with requests := s.requests ++ [i] }).bumpStream i .recoveryRequests
        ∨ (s.stream i).classGroup an h.first h.g = .waiting ∧ s.holderTest i = s.dropRequest i) := by
  unfold State.holderTest
  split
  next h an hh ha =>
    refine .inr ⟨h, an, hh, ha, ?_⟩
    split
    next hc => exact .inl ⟨hc, rfl⟩
    next hc => exact .inr (.inl ⟨hc, rfl⟩)
    next hc =>
      by_cases hm : i ∈ s.requests
      · exact .inr (.inr (.inl ⟨hc, hm, by simp [hm]⟩))
      · exact .inr (.inr (.inr (.inl ⟨hc, hm, by simp [hm]⟩)))
    next hc => exact .inr (.inr (.inr (.inr ⟨hc, rfl⟩)))
  next hn =>
    refine .inl ⟨?_, rfl⟩
    cases hh : (s.stream i).holder with
    | none => exact .inl rfl
    | some h =>
      cases ha : (s.stream i).anchor with
      | none => exact .inr rfl
      | some an => exact absurd ha (hn h an hh)

/-- Emptied operands return a RECOVERING target to EMPTY, or change nothing (R102). -/
theorem State.operandsEmptied_cases (i : Fin 8) (gone : List Seq) (s : State) :
    s.operandsEmptied i gone = s
      ∨ ∃ op, s.recovery = some op ∧ op.stream = some i ∧ s.targetRecovering i op = true
        ∧ s.operandsEmptied i gone = s.setStream i ((s.stream i).putSlot op.position Slot.vacant) := by
  unfold State.operandsEmptied
  split
  next => exact .inl rfl
  next op hop =>
    split
    next h =>
      simp only [Bool.and_eq_true, decide_eq_true_eq] at h
      exact .inr ⟨op, hop, h.1.1, h.1.2, rfl⟩
    next => exact .inl rfl

/-- A reception is judged when the link has been UP since it began, and changes nothing otherwise (R156). -/
theorem State.receiveFrame_cases (rx : Reception) (s : State) :
    (s.relay.link = .up ∧ receptionTicks rx ≤ s.relay.upFor)
        ∧ s.receiveFrame rx = s.judgeReceived (receivedBytes rx)
      ∨ ¬(s.relay.link = .up ∧ receptionTicks rx ≤ s.relay.upFor) ∧ s.receiveFrame rx = s := by
  have h : s.receives rx = true ↔ s.relay.link = .up ∧ receptionTicks rx ≤ s.relay.upFor := by
    unfold State.receives
    rw [Bool.and_eq_true, beq_iff_eq]
    exact and_congr_right fun _ => ⟨of_decide_eq_true, decide_eq_true⟩
  unfold State.receiveFrame
  split
  next hr => exact .inl ⟨h.1 hr, rfl⟩
  next hr => exact .inr ⟨fun hx => hr (h.2 hx), rfl⟩

/-! ## Readers -/

/-- A reader that still stands for the stream of the edge does its period's work there. -/
theorem State.takeReader_of_stays {s : State} {r : ReaderId} {i : Fin 8} (h : s.readerStream r = some i) (ch : Fin 8)
    (edge : Time) : s.takeReader r i ch edge = s.runReader 4 r i ch edge := by simp [State.takeReader, h]

/-- One that has left it does so from a fresh start, and its own place is given back (R107, R134; log 12). -/
theorem State.takeReader_of_left {s : State} {r : ReaderId} {i : Fin 8} (h : s.readerStream r ≠ some i) (ch : Fin 8)
    (edge : Time) : s.takeReader r i ch edge
      = (((s.setReaderPos r .fresh).runReader 4 r i ch edge).1,
         ((s.setReaderPos r .fresh).runReader 4 r i ch edge).2.setReaderPos r (s.readerPos r)) := by
  simp [State.takeReader, h]

/-- A switch that finds no pending anchor leaves no sequence a place (R74; log 44). -/
@[simp] theorem Stream.leftBehind_of_none {st : Stream} (h : st.pendingAnchor = none) (k q : Seq) :
    st.leftBehind k q = true := by simp [Stream.leftBehind, h]

/-- At a pending anchor b' the sequences with a place are those of the window of b' that follow the break (R58, R74). -/
theorem Stream.leftBehind_of_some {st : Stream} {pa : PendingAnchor} (h : st.pendingAnchor = some pa) (k q : Seq) :
    st.leftBehind k q = (!seqFollows q k || !inWindow st.depth pa.b q) := by simp [Stream.leftBehind, h]

end Sys2Proof.Machine
end

