-- ==== Sys2Proof/WellFormed.lean ====
section
/-! DEFINITION. Which commands can occur: the operand shapes that the table's events and the frame formats admit. A
command that is not well formed has a meaning too (it is refused, or nothing takes place); no event of the part has
its form. -/

namespace Sys2Proof

/-- Whether a command has the form of an event of the part.
An opening byte is bad when it is neither WRITE nor READ (R25). An ASSIGN_NODE body holds 0 .. 4 groups and a QUERY body
1 .. 85 requests (R195). A frame on the satellite line begins with a cell that has no starting transition, so the line has then been still
for a tick at least (R198). -/
def Instr.wellFormed : Instr → Bool
  | .badOpening b => b != Config.writeOpening && b != Config.readOpening
  | .assignNode _ _ _ groups => decide (groups.length ≤ 4)
  | .query _ reqs => decide (1 ≤ reqs.length) && decide (reqs.length ≤ 85)
  | .satelliteFrameReceived rx =>
    match rx.cells with
    | [] => false
    | c :: _ => !c.start && decide (1 ≤ rx.still)
  | .powerOnReset | .selectAssertion | .writeSelect | .readSelect | .earlyDeassertion | .writeSelectEnd _ _
  | .readSelectEnd _ | .dispatch | .audioAdmission | .parityAdmission | .recoveryStart | .recoveryCompletion
  | .takingABeat | .gapExpiry | .holdoverExpiry | .readerPeriod _ | .channelPeriod _ | .laneRateChange
  | .setReporting _ _ _ | .setTimeSource _ _ _ _ _ | .setRegen _ _ | .loadStream _ _ | .openStream _ _
  | .closeStream _ _ | .unloadStream _ _ | .mapChannel _ _ _ _ _ _ _ | .setGain _ _ _ _ _ | .setMute _ _ _
  | .setLanes _ _ _ _ _ _ | .setMode _ _ | .setClassMap _ _ | .setSourceEntry _ _ _ _ | .setPriorityWeights _ _ _ _
  | .setQueues _ _ | .setRelayMargin _ _ | .setStore _ _ | .setLines _ _ _ _ _ _ | .clearAttention _ _ _ _ | .reset _
  | .directiveRelayCopy | .satDetRise | .qualificationExpiry | .satDetFall | .selection | .transmissionEnd
  | .regenerationTimerExpiry | .presenceTimerExpiry | .lineSampling _ | .directiveTaken => true

end Sys2Proof
end

