-- ==== Sys2Proof/Tests/Slice0.lean ====
section
/-! SUPPORT. The model's own tests: the well-formedness checks, values taken from the manual's worked examples, and for every
statement with hypotheses a state that meets them together (`witness_…`, named after the statement). -/

namespace Sys2Proof.Tests

open Sys2Proof Sys2Proof.Machine

-- One theorem at a time: each evaluation in the kernel waits for the one before, and a thread that waits holds a stack.
set_option Elab.async false

/-! ## Small states -/

/-- The state a command leaves. -/
def after (c : Instr) (s : State) : State :=
  match exec c s with
  | .next t => t
  | .fault _ | .refused _ => s

/-- A directive's header fields, without and with a reply wanted. -/
def quiet : DirHeader := ⟨7, false, 5, 1⟩
def asking : DirHeader := ⟨7, true, 5, 1⟩

/-- A frame with its header, its payload and a trailer that no test here judges. -/
def frame (kind : Nat) (b1 : Byte) (key src seq : BitVec 16) (stamp : Time) (payload : List Byte) : List Byte :=
  [BitVec.ofNat 8 (kind + 16), b1] ++ leBytes 2 key.toNat ++ leBytes 2 src.toNat ++ leBytes 2 seq.toNat
    ++ leBytes 6 stamp.toNat ++ leBytes 2 payload.length ++ payload ++ [0, 0, 0, 0]

/-- A part with node ID 0x12 at LC 1000. -/
def assigned : State := { State.reset with
  lc := 1000, ident := { State.reset.ident with node := 0x12, groups := [0xFF03], presenceTimer := none } }

/-- The head frame, arrived now, and the consumers that are to take it. -/
def given (cs : List Consumer) (bs : List Byte) (s : State) : State :=
  { s with port := ⟨.idle, [⟨bs, s.lc⟩], cs⟩ }

/-- A Time Lock Unit in a time state, following source 5 in epoch 1, with `n` raw offsets of 1000 in its window. -/
def tluIn (st : TimeState) (n : Nat) : Tlu := { Tlu.afterReset with
  timeState := st, source := 5, epoch := some 1, window := List.replicate n 1000, oc := 1000, lcc := 0
  mPrev := some 1000, lastBeat := some (10, 0) }

/-- A beat of the source: epoch, and a stamp. -/
def beat (epoch : BitVec 16) (stamp : Time) : List Byte := frame 3 7 epoch 5 9 stamp []

/-- A stream of key 7: one channel, 16 samples a frame, a ring of 4, quota 8, parity groups of 2. -/
def stream7 (st : StreamState) : Stream := { Stream.idle with
  state := st, key := 7, fs := 48000, channels := 1, n := 16, depth := 4, quota := 8, g := 2, localPlay := true
  tol := 100, horizon := 245760, ring := List.replicate 4 Slot.vacant }

/-- A payload of 16 samples of value 0x010101. -/
def payload16 : List Byte := List.replicate 48 1

/-- The part LOCKED, with stream 0 as given. -/
def withStream (st : Stream) : State := { assigned with tlu := tluIn .locked 0 }.setStream 0 st

/-- Stream 7 anchored at sequence 40 on time 100,000, at position 0. -/
def anchor40 : Anchor := ⟨100000, 40, 0, 40, 0⟩
def anchored (st : StreamState) (ring : List Slot) : Stream :=
  { stream7 st with anchor := some anchor40, ring := ring }

/-- A filled slot of the current segment with one cell. -/
def filled (q : Nat) (cell : Nat) : Slot := ⟨.filled, BitVec.ofNat 16 q, .current, q - 40, [cell]⟩

/-- A held cell whose 128 words are all `w`. -/
def cellOfWord (id : Nat) (w : Word) : Cell := ⟨id, 1, some 0, List.replicate 128 w⟩

/-- A state whose pool holds the cells given. -/
def withCells (cs : List Cell) (s : State) : State := { s with pool := { s.pool with held := cs } }

/-! ## Well-formedness: each check refuses an ill-formed term -/

theorem test_wellFormed_badOpening_is_write : (Instr.badOpening 0xA5).wellFormed = false := by decide
theorem test_wellFormed_badOpening_is_read : (Instr.badOpening 0x5A).wellFormed = false := by decide
theorem test_wellFormed_five_groups : (Instr.assignNode quiet 0 1 [1, 2, 3, 4, 5]).wellFormed = false := by decide
theorem test_wellFormed_no_request : (Instr.query quiet []).wellFormed = false := by decide
theorem test_wellFormed_many_requests : (Instr.query quiet (List.replicate 86 ⟨1, 0, 0⟩)).wellFormed = false := by
  decide +kernel
theorem test_wellFormed_no_cells : (Instr.satelliteFrameReceived ⟨2, []⟩).wellFormed = false := by decide
theorem test_wellFormed_no_violation : (Instr.satelliteFrameReceived ⟨2, [⟨true, true⟩]⟩).wellFormed = false := by decide
theorem test_wellFormed_not_still : (Instr.satelliteFrameReceived ⟨0, [⟨false, true⟩]⟩).wellFormed = false := by decide
theorem test_wellFormed_accepts : (Instr.badOpening 0x00).wellFormed = true := by decide

/-! ## Values from the manual -/

/-- The CRC-32 of the digits 1 to 9 (R194). -/
theorem test_crc32_check : crc32 [0x31, 0x32, 0x33, 0x34, 0x35, 0x36, 0x37, 0x38, 0x39] = 0xCBF43926#32 := by
  decide +kernel

/-- House Time, worked example: the unit before close 1. -/
def example1 : Tlu := { tluIn .locked 0 with oc := 500000, lcc := 1000000000, mPrev := some 500000, lockCount := 2 }

/-- Close 1 of the worked example of House Time. -/
theorem test_close_1 : example1.commit 502458 1245760000
    = { example1 with
        oc := 500064, lcc := 1245760000, rate := 42, mPrev := some 502458, lastError := 2458, timeState := .settling
        lockCount := 0 } := by decide

/-- Close 2: a first strike's error. -/
theorem test_close_2 : (example1.commit 502458 1245760000).error 540000 1491520000 = 39321 := by decide

/-- Close 3, and the estimate 12,720,000 ticks later. -/
theorem test_close_3 :
    let t := (example1.commit 502458 1245760000).commit 507374 1737280000
    t.oc = 501358 ∧ t.rate = 73 ∧ t.timeState = .settling ∧ t.htEst 1750000000 = some 1750501413 := by decide

/-- Streams, worked example: frame 503's expected stamp. -/
theorem test_expected_stamp : ({ stream7 .playing with n := 240 }).expectedStamp 10000000 3 = 10368640 := by decide

/-- Readers, worked examples: interpolation between 1000 and 1256, and between halved negative samples. -/
theorem test_interpolate : interpolate 1000 1256 111 = 1111 ∧ interpolate (-501) (-601) 55 = -522 := by decide

/-- The repeat line halves toward minus infinity. -/
theorem test_repeat_line : (ValueLine.halved (-1001)).value = -501 := by decide

/-- Output channels, worked example: periods 1 and 157 of the mix. -/
theorem test_mix : mixed 6000000 7000000 16256 128 = 6007812 ∧ mixed 6000000 7000000 4096 20000 = 10044921
    ∧ saturate 10044921 = 8388607 := by decide

/-- Output channels: the last step of the overlay's ramp. -/
theorem test_ramp : rampStep 19968 20000 = 20000 ∧ rampStep 16384 4096 = 16256 := by decide

/-- An entry of the worked example of Relay. -/
def entryOf (len : Nat) : RelayEntry := ⟨.audio, none, [], 0, len, []⟩

/-- Queues 0 and 1 of that example at selection 1, with deficits. -/
def relay1 (d0 d1 : Nat) (p : Fin 4) : State := { State.reset with relay := { State.reset.relay with
  link := .up, pointer := p, interval := 0
  queues := #v[⟨[entryOf 404, entryOf 404], true, 4, d0⟩, ⟨[entryOf 1460, entryOf 1460], true, 12, d1⟩, ⟨[], true, 1, 0⟩,
    ⟨[], false, 1, 0⟩] } }

/-- Selections 1 and 2 of the worked example of Relay: what is sent, both deficits and the pointer. -/
theorem test_selection_1 :
    let r := (after .selection (relay1 0 0 0)).relay
    r.tx.map (·.length) = some 1460 ∧ (r.queue 0).deficit = 256 ∧ (r.queue 1).deficit = 76 ∧ r.pointer = 1 := by
  decide +kernel
theorem test_selection_2 :
    let r := (after .selection (relay1 256 76 1)).relay
    r.tx.map (·.length) = some 404 ∧ (r.queue 0).deficit = 108 ∧ (r.queue 1).deficit = 76 ∧ r.pointer = 0 := by
  decide +kernel

/-- A directive's items are read back (R195): the codes and lengths of the table. -/
theorem test_items_read : payloadItems [2, 6, 1, 3, 22, 3, 3, 4, 0] = [.item (.openStream 3), .item (.query [⟨3, 4, 0⟩])] := by
  decide

/-- An item announced and missing is refused BAD_LENGTH; an unknown code BAD_ITEM (R161). -/
theorem test_items_refused : payloadItems [1] = [.bad .badLength] ∧ payloadItems [1, 24, 0] = [.bad .badItem] := by decide

/-- The byte order of a field and a sample's sign (R83, R194). -/
theorem test_bytes : leBytes 2 0x1234 = [0x34, 0x12] ∧ payloadWords [0xFF, 0xFF, 0xFF] = [0xFFFFFFFF] := by decide

/-- Restarting the least free count by a STORE_STATUS record alone (R89). -/
theorem test_query_store : (after (.query asking [⟨4, 0, 0⟩]) (withCells [] { assigned with pool := ⟨[], 7, 64⟩ })).pool.leastFree
    = 1024 := by decide +kernel

/-- The opening byte (R25; 11.1). -/
theorem test_opening : openingOf 0xA5 = .write ∧ openingOf 0x5A = .read ∧ openingOf 0x00 = .unknown := by decide

/-- A select of more bytes than a buffer stores is refused by its length, however it ends (R28, R29). -/
theorem test_filling : (Filling.of (List.replicate 1540 0)).stored.length = 1536 ∧ (Filling.of (List.replicate 1540 0)).received = 1540
    ∧ frameFault (Filling.of (List.replicate 1540 0)) false = some .length := by decide +kernel

/-- A line held still over four ticks ends a reception (R198). -/
theorem test_still_line_ends : receptionBits 2 [⟨false, false⟩, ⟨true, true⟩] = [false, true]
    ∧ receptionBits 4 [⟨false, true⟩, ⟨true, true⟩] = [] ∧ receptionBits 3 [⟨false, true⟩, ⟨true, true⟩] = [true, true]
    ∧ receptionBits 3 [⟨false, false⟩, ⟨true, true⟩] = [false] := by decide

/-- A violation ends a reception: the short frame is counted, and what the violation begins is not of this reception (R198). -/
theorem test_violation_ends_reception :
    receptionBits 2 [⟨false, true⟩, ⟨false, true⟩, ⟨true, false⟩] = [true]
      ∧ let s : State := { State.reset with relay := { State.reset.relay with link := .up, upFor := 1000 } }
        (after (.satelliteFrameReceived ⟨2, [⟨false, true⟩, ⟨false, true⟩]⟩) s).partCount .satRxBad = 1 := by decide +kernel

/-- Idle cells follow a transmission of 20 bytes from LC 681 back to back: a transition at its end tick and at every second
tick after it (R198). -/
theorem test_idle_cells_follow :
    let s (lc : Nat) : State := { State.reset with
      lc := BitVec.ofNat 48 lc, relay := { State.reset.relay with cellOrigin := 681 } }
    (s 1001).satTransition = true ∧ (s 1002).satTransition = false ∧ (s 1003).satTransition = true := by decide

/-- A reader below the new origin has no place after a rebase (log 42). -/
theorem test_rebase_below : reduceBy 10 (some 9) = none ∧ reduceBy 10 (some 10) = some 0 ∧ reduceBy 10 none = none := by decide

/-- MAP_CHANNEL maps the channel and starts the reader afresh (R107, R128). -/
theorem test_map_channel :
    let s := after (.mapChannel quiet 2 ⟨0, 0⟩ ⟨0xFF, 0⟩ 16384 0 0) (withStream (stream7 .listening))
    (s.channel 2).primarySrc = some ⟨0, 0⟩ ∧ (s.channel 2).gP = 16384 ∧ s.lead 0 = some (.primary 2) := by decide +kernel

/-! ## Witnesses: states that meet the statements' hypotheses -/

theorem witness_EmptyQueuePassesOneCycle : State.reset.pending = [] := rfl

theorem witness_ResetValues : (∃ u, exec .powerOnReset assigned = .next u) ∧ assigned.ident.node ≠ 0
    ∧ quiet.replyWanted = false ∧ ∃ u, exec (.reset quiet) assigned = .next u := ⟨⟨_, rfl⟩, by decide, rfl, _, rfl⟩

/-- A part with a select in progress. -/
def selecting (x : Select) (intake : List InFrame) : State := { assigned with port := ⟨x, intake, []⟩ }

theorem witness_SelectResults :
    (selecting .idle []).port.select = .idle ∧ (selecting .void []).port.select = .void
      ∧ (selecting (.opening 990) []).port.select = .opening 990 ∧ (0x00 : Byte) ≠ 0xA5 ∧ (0x00 : Byte) ≠ 0x5A
      ∧ (selecting (.read (some [1, 2])) []).port.select = .read (some [1, 2])
      ∧ (selecting (.read none) []).port.select = .read none ∧ (selecting .refused []).port.select = .refused := by decide

/-- Three and four frames waiting: the last free buffer, and none. -/
def full (n : Nat) : List InFrame := List.replicate n ⟨beat 1 0, 5⟩

theorem witness_SelectResults_write :
    (selecting (.opening 990) (full 3)).port.select = .opening 990 ∧ (selecting (.opening 990) (full 3)).du.gathered = false
      ∧ (selecting (.opening 990) (full 3)).port.intake.length < 4
      ∧ ¬(selecting (.opening 990) (full 4)).port.intake.length < 4 := by decide

theorem witness_WriteSelectEndResult : (selecting (.write 990) []).port.select = .write 990 := by decide

/-- Frames of each kind at the head, not handed on. -/
def headOf (kind : Nat) : State := given [] (frame kind 7 0x12 5 1 0 []) assigned

theorem witness_DispatchResult :
    (headOf 1).port.intake = [⟨frame 1 7 0x12 5 1 0 [], 1000⟩] ∧ (headOf 1).port.handed = []
      ∧ kindCode (frame 1 7 0x12 5 1 0 []) = 1 ∧ kindCode (frame 2 7 0x12 5 1 0 []) = 2
      ∧ kindCode (frame 3 7 0x12 5 1 0 []) = 3 ∧ kindCode (frame 5 7 0x12 5 1 0 []) = 5
      ∧ kindCode (frame 6 7 0x12 5 1 0 []) = 6 := by decide

/-- Directives to the node itself, to its group, to another node and to destination 0: taken, both, copied, neither. -/
def directiveTo (dest : NodeId) : State := given [] (frame 4 7 dest 5 1 0 []) assigned

theorem witness_DispatchResult_directive :
    kindCode (frame 4 7 0x12 5 1 0 []) = 4 ∧ (directiveTo 0x12).port.handed = []
      ∧ frameKey (frame 4 7 0x12 5 1 0 []) = assigned.ident.node
      ∧ frameKey (frame 4 7 0xFF03 5 1 0 []) ∈ assigned.ident.groups
      ∧ frameKey (frame 4 7 0x13 5 1 0 []) ∉ assigned.ident.groups ∧ frameKey (frame 4 7 0x13 5 1 0 []) ≠ 0xFFFF
      ∧ frameKey (frame 4 7 0 5 1 0 []) = 0 := by decide

/-- The Time Lock Unit about to take a beat. -/
def taking (bs : List Byte) (t : Tlu) : State := given [.timeLock] bs { assigned with tlu := t }

theorem witness_BeatScreeningAndWindow :
    (taking (frame 3 7 1 5 9 0 [0]) (tluIn .locked 0)).port.handed = [.timeLock]
      ∧ framePayloadLength (frame 3 7 1 5 9 0 [0]) ≠ 0
      ∧ framePayloadLength (frame 3 7 1 6 9 0 []) = 0 ∧ frameSource (frame 3 7 1 6 9 0 []) ≠ (tluIn .locked 0).source
      ∧ Tlu.afterReset.source = 0 ∧ (taking (beat 1 0) Tlu.afterReset).du.gathered = false := by decide

/-- A used beat of epoch 1 at the head, handed to a Time Lock Unit in a given state. -/
abbrev UsedBeat (t : Tlu) : Prop :=
  (taking (beat 1 2000) t).port.intake = [⟨beat 1 2000, 1000⟩] ∧ (taking (beat 1 2000) t).port.handed = [.timeLock]
    ∧ (taking (beat 1 2000) t).du.gathered = false ∧ framePayloadLength (beat 1 2000) = 0 ∧ t.source ≠ 0
    ∧ frameSource (beat 1 2000) = t.source

theorem witness_BeatScreeningAndWindow_used :
    (UsedBeat { tluIn .unlocked 0 with epoch := none } ∧ (tluIn .unlocked 0).timeState = .unlocked)
      ∧ (UsedBeat (tluIn .locked 6) ∧ (tluIn .locked 6).timeState = .locked
        ∧ (tluIn .locked 6).epoch = some (frameEpoch (beat 1 2000)) ∧ (tluIn .locked 6).window.length < 7)
      ∧ (UsedBeat (tluIn .acquiring 0) ∧ (tluIn .acquiring 0).timeState = .acquiring)
      ∧ (UsedBeat (tluIn .settling 6) ∧ (tluIn .settling 6).timeState = .settling)
      ∧ (UsedBeat (tluIn .holdover 3) ∧ (tluIn .holdover 3).timeState = .holdover
        ∧ (tluIn .holdover 3).epoch = some (frameEpoch (beat 1 2000))) := by decide

theorem witness_EpochRestart :
    (taking (beat 2 2000) (tluIn .locked 3)).port.intake = [⟨beat 2 2000, 1000⟩]
      ∧ (taking (beat 2 2000) (tluIn .locked 3)).port.handed = [.timeLock] ∧ framePayloadLength (beat 2 2000) = 0
      ∧ (tluIn .locked 3).source ≠ 0 ∧ frameSource (beat 2 2000) = (tluIn .locked 3).source
      ∧ (tluIn .locked 3).epoch = some 1 ∧ (1 : BitVec 8) ≠ frameEpoch (beat 2 2000) := by decide

theorem witness_AcquiringClose :
    UsedBeat (tluIn .acquiring 7) ∧ (tluIn .acquiring 7).window.length = 7
      ∧ (tluIn .acquiring 7).epoch = some (frameEpoch (beat 1 2000)) ∧ (tluIn .acquiring 7).timeState = .acquiring
      ∧ (taking (beat 1 2000) (tluIn .acquiring 7)).relay.link ≠ .up := by decide

theorem witness_ServoClose :
    (UsedBeat (tluIn .locked 7) ∧ (tluIn .locked 7).timeState = .locked ∧ (tluIn .locked 7).window.length = 7
        ∧ (tluIn .locked 7).epoch = some (frameEpoch (beat 1 2000)) ∧ (tluIn .locked 7).strikes = 0
        ∧ (1000 - (tluIn .locked 7).predicted 1000).toInt.natAbs ≤ 24576)
      ∧ (UsedBeat (tluIn .settling 7) ∧ (tluIn .settling 7).timeState = .settling)
      ∧ (UsedBeat { tluIn .locked 7 with oc := 90000 }
        ∧ 24576 < (1000 - ({ tluIn .locked 7 with oc := 90000 }).predicted 1000).toInt.natAbs) := by decide

/-- A close whose least offset is 1000 and whose prediction is `e` below it. -/
def errorOf (st : TimeState) (e : Time) : Tlu := { tluIn st 7 with oc := 1000 - e }

/-- Errors at the limits of R12 and R15, of either sign: within and beyond the strike, and of the two lock judgements. -/
theorem witness_ServoClose_limits :
    (∀ e ∈ ([0, 246, 247, 1229, 1230, 24576, 24577, -246, -24576, -24577] : List Int), ∀ st ∈ [TimeState.settling, .locked],
      let t := errorOf st (BitVec.ofInt 48 e)
      UsedBeat t ∧ t.window.length = 7 ∧ t.strikes = 0 ∧ (1000 - t.predicted 1000).toInt = e)
      ∧ (24576 : Int).natAbs ≤ 24576 ∧ 24576 < (24577 : Int).natAbs ∧ 24576 < (-24577 : Int).natAbs := by decide +kernel

theorem witness_SecondStrikeSteps :
    let t : Tlu := { tluIn .locked 7 with oc := 90000, strikes := 1 }
    UsedBeat t ∧ t.epoch = some (frameEpoch (beat 1 2000)) ∧ t.timeState = .locked ∧ t.window.length = 7 ∧ t.strikes ≠ 0
      ∧ 24576 < (1000 - t.predicted 1000).toInt.natAbs := by decide

/-- Long after the last used beat. -/
def late (t : Tlu) : State := { assigned with lc := 3000000000, tlu := t }

theorem witness_TimeExpiries :
    (late (tluIn .settling 2)).tlu.lastBeat = some (10, 0)
      ∧ (late (tluIn .settling 2)).tlu.gapTimeout < ((late (tluIn .settling 2)).lc - 10).toNat
      ∧ (tluIn .settling 2).holdoverLimit ≠ 0 ∧ ({ tluIn .locked 2 with holdoverLimit := 0 }).holdoverLimit = 0
      ∧ (late (tluIn .acquiring 2)).du.gathered = false := by decide

theorem witness_TimeExpiries_holdover :
    let s := late { tluIn .holdover 2 with holdoverStart := some 100 }
    s.tlu.timeState = .holdover ∧ s.tlu.holdoverStart = some 100 ∧ s.tlu.holdoverLimit ≤ (s.lc - 100).toNat := by decide

/-- An AUDIO frame of stream 7 at sequence 40. -/
def audio40 (b1 : Byte) : List Byte := frame 1 b1 7 5 40 100000 payload16

/-- Stream 0 about to be offered that frame. -/
def offered (st : Stream) (b1 : Byte) : State := given [.admission] (audio40 b1) (withStream st)

/-- An AUDIO frame of stream 7 at a sequence and stamp, with header byte 1 as given (bits 4..3 continuity). -/
def audioAt (b1 : Byte) (seq : Nat) (stamp : Time) : InFrame := ⟨frame 1 b1 7 5 (BitVec.ofNat 16 seq) stamp payload16, 1000⟩

/-- Stream 0 about to be offered a frame. -/
def offeredAt (st : Stream) (f : InFrame) : State := given [.admission] f.bytes (withStream st)

/-- Stream 0 relaying alone. -/
def relayOnly : Stream := { stream7 .listening with localPlay := false, relay := true }

/-- The link UP with `n` entries in every queue. -/
def linked (n : Nat) (s : State) : State := { s with relay := { s.relay with
  link := .up, queues := Vector.replicate 4 { RelayQueue.afterReset with entries := List.replicate n (entryOf 20) } } }

/-- A ring whose frame 42 alone is there; one whose frame 43 is MISSED; and both breaks and the pending anchor in sight. -/
def ring42 : List Slot := [Slot.vacant, Slot.vacant, filled 42 0, Slot.vacant]
def ring4243 : List Slot := [Slot.vacant, Slot.vacant, filled 42 0, ⟨.missed, 43, .current, 3, []⟩]
def breaking : Stream := { anchored .playing (List.replicate 4 Slot.vacant) with
  breakSeq := some 40, pendingAnchor := some ⟨120000, 42⟩, secondBreak := some 42 }

theorem witness_AudioRefusalsAndRelayOnly :
    (∀ i : Fin 8, (assigned.stream i).state = .idle)
      ∧ (∀ st ∈ [StreamState.loaded, .listening, .playing, .ended], let s := offeredAt (stream7 st) (audioAt 7 40 100000)
          s.port.intake = [audioAt 7 40 100000] ∧ s.port.handed = [.admission] ∧ s.du.gathered = false
            ∧ (s.stream 0).state = st ∧ (s.stream 0).key = frameKey (audioAt 7 40 100000).bytes
            ∧ ∀ j : Fin 8, j ≠ 0 → (s.stream j).state = .idle)
      ∧ (let s := offeredAt relayOnly (audioAt 7 40 100000)
         framePayloadLength (audioAt 7 40 100000).bytes = (s.stream 0).n * (s.stream 0).channels * 3
           ∧ ¬(s.stream 0).quota < s.pool.charged 0 + (s.stream 0).k ∧ ¬s.pool.free < (s.stream 0).k ∧ s.relay.link ≠ .up
           ∧ s.tlu.htEst 1000 = some 2000 ∧ s.tlu.timeState = .locked)
      ∧ (∀ n ∈ [0, 31, 32], let s := linked n (offeredAt relayOnly (audioAt 7 40 100000))
         let target := s.relay.queueFor (some (s.stream 0).prio) (frameClass (audioAt 7 40 100000).bytes)
           (frameSource (audioAt 7 40 100000).bytes)
         s.relay.link = .up ∧ (s.relay.queue target).entries.length = n ∧ s.pool.wf = true
           ∧ (s.stream 0).state = .listening ∧ (s.stream 0).localPlay = false
           ∧ (audioAt 7 40 100000).bytes.length = framePayloadLength (audioAt 7 40 100000).bytes + 20)
      ∧ ({ relayOnly with quota := 0 } : Stream).quota < 0 + relayOnly.k := by decide +kernel

/-- Each line of the anchored path at the edge of its range: the window from 40 with depth 4, the breaks and the pending anchor,
the slot, the stamp with tolerance 100, the time with house time 2000 and the horizon. -/
theorem witness_AudioRefusalsAndRelayOnly_anchored :
    Follows 40 39 ∧ Follows 40 (40 - 32767) ∧ ¬Follows 40 (40 - 32768) ∧ 4 ≤ ((44 : Seq) - 40).toNat
      ∧ ((43 : Seq) - 40).toNat < 4 ∧ Passed 43 (some 42) = true ∧ Passed 42 (some 42) = false
      ∧ Passed 43 breaking.secondBreak = true ∧ Passed 41 breaking.breakSeq = true
      ∧ breaking.pendingAnchor.any (fun pa => decide (Follows pa.b 41)) = true
      ∧ (((anchored .playing ring4243).slotOf anchor40 42).state = .filled
        ∧ ((anchored .playing ring4243).slotOf anchor40 43).state = .missed
        ∧ ((anchored .playing ring42).slotOf anchor40 43).state = .empty)
      ∧ stampOf (anchored .playing ring42) 100000 3 = 124576
      ∧ 100 < (signed48 124677 124576).natAbs ∧ ¬100 < (signed48 124676 124576).natAbs
      ∧ ({ anchored .playing ring42 with mismatchRun := 2 } : Stream).mismatchRun < 3
      ∧ signed48 (2000 - BitVec.ofNat 48 ((withStream (anchored .playing ring42)).latencyMax 0)) 2000 ≤ 0
      ∧ (245760 : Int) < signed48 247761 2000 := by decide +kernel

theorem witness_FirstFrameAnchors :
    let s := offered (stream7 .listening) 7
    let f : InFrame := ⟨audio40 7, 1000⟩
    s.port.intake = [f] ∧ s.port.handed = [.admission] ∧ s.pool.wf = true ∧ (s.stream 0).state = .listening
      ∧ (s.stream 0).key = frameKey f.bytes ∧ (s.stream 0).localPlay = true ∧ s.tlu.timeState = .locked
      ∧ (s.stream 0).ring.length = (s.stream 0).depth ∧ 0 < (s.stream 0).depth
      ∧ framePayloadLength f.bytes = (s.stream 0).n * (s.stream 0).channels * 3
      ∧ f.bytes.length = framePayloadLength f.bytes + 20 ∧ s.tlu.htEst f.arrival = some 2000
      ∧ 0 < signed48 (frameStamp f.bytes - BitVec.ofNat 48 (s.latencyMax 0)) 2000
      ∧ signed48 (frameStamp f.bytes) 2000 ≤ (s.stream 0).horizon
      ∧ s.pool.charged 0 + (s.stream 0).k ≤ (s.stream 0).quota ∧ (s.stream 0).k ≤ s.pool.free := by decide +kernel

theorem witness_FirstFrameAnchors_flushed : Flushed ((offered (stream7 .listening) 7).stream 0) := by
  refine ⟨rfl, rfl, rfl, rfl, rfl, rfl, rfl, rfl, rfl, ?_⟩
  decide

/-- Stream 0 keyed alone by a frame of key 7. -/
theorem keyed_offered : Keyed (offeredAt (anchored .playing ring42) (audioAt 7 43 124576)) (audioAt 7 43 124576) 0
    ∧ Keyed (offeredAt breaking (audioAt 7 42 120000)) (audioAt 7 42 120000) 0
    ∧ Keyed (offeredAt (stream7 .playing) (audioAt 7 43 124576)) (audioAt 7 43 124576) 0 := by
  unfold Keyed; decide +kernel

/-- A frame of the current segment at the end of the window, LAST or BREAK; one at the pending anchor; one that sets it; and one
for a stream that awaits its anchor. -/
theorem witness_AcceptedFrameTakesItsSlot :
    (∀ b1 ∈ [7, 15, 23], let f := audioAt (BitVec.ofNat 8 b1) 43 124576
      let s := withCells [cellOfWord 0 5] (offeredAt { anchored .playing ring42 with relay := true } f)
      s.port.intake = [f] ∧ s.pool.wf = true ∧ (s.stream 0).running = true ∧ (s.stream 0).holder = none
        ∧ (s.stream 0).ring.length = (s.stream 0).depth
        ∧ framePayloadLength f.bytes = (s.stream 0).n * (s.stream 0).channels * 3
        ∧ f.bytes.length = framePayloadLength f.bytes + 20 ∧ s.tlu.htEst f.arrival = some 2000
        ∧ 0 < signed48 (frameStamp f.bytes - BitVec.ofNat 48 (s.latencyMax 0)) 2000
        ∧ signed48 (frameStamp f.bytes) 2000 ≤ (s.stream 0).horizon
        ∧ s.pool.charged 0 + (s.stream 0).k ≤ (s.stream 0).quota ∧ (s.stream 0).k ≤ s.pool.free
        ∧ ¬Follows anchor40.base 43 ∧ ((43 : Seq) - anchor40.base).toNat < (s.stream 0).depth
        ∧ ((s.stream 0).slotOf anchor40 43).state = .empty
        ∧ (signed48 (frameStamp f.bytes) (stampOf (s.stream 0) anchor40.a 3)).natAbs ≤ (s.stream 0).tol)
      ∧ Passed 42 breaking.breakSeq = true ∧ breaking.pendingAnchor = some ⟨120000, 42⟩ ∧ ¬Follows 42 42
      ∧ (signed48 120000 (stampOf breaking 120000 ((42 : Seq) - 42).toNat)).natAbs ≤ breaking.tol
      ∧ ({ breaking with pendingAnchor := none } : Stream).pendingAnchor = none
      ∧ (stream7 .playing).running = true ∧ (stream7 .playing).anchor = none ∧ (stream7 .playing).breakSeq = none
      ∧ [frameContinuity (audioAt 7 43 0).bytes, frameContinuity (audioAt 15 43 0).bytes, frameContinuity (audioAt 23 43 0).bytes]
        = [0, 1, 2] := by decide +kernel

/-- A parity held when the frame 43 has been accepted beside 42, at the edges of its group: complete, one slot EMPTY, two EMPTY,
one past the break that 43 is, and one whose MISSED slot the frame leaves; its cell is held, and the frame is of its group. -/
theorem witness_AcceptedFrameTakesItsSlot_holder :
    let z := anchored .playing [Slot.vacant, Slot.vacant, filled 42 0, filled 43 2]
    let hd (first : Seq) (g : Nat) : ParityHolder := ⟨first, g, [1]⟩
    GroupComplete z anchor40 (hd 42 2) ∧ GroupRecoverable z anchor40 (hd 41 3)
      ∧ (¬GroupRecoverable z anchor40 (hd 40 4) ∧ ¬GroupComplete z anchor40 (hd 40 4) ∧ ¬GroupExpired z anchor40 (hd 40 4))
      ∧ GroupExpired { z with breakSeq := some 43 } anchor40 (hd 43 2)
      ∧ (((43 : Seq) - 42).toNat < 2 ∧ ((43 : Seq) - 40).toNat < 4 ∧ ¬((43 : Seq) - 41).toNat < 2)
      ∧ ∃ c ∈ (withCells [cellOfWord 0 5, cellOfWord 1 6] assigned).pool.held, c.id = 1 := by
  have h42 : groupSeqs 42 2 = [42, 43] := by decide
  have h41 : groupSeqs 41 3 = [41, 42, 43] := by decide
  have h40 : groupSeqs 40 4 = [40, 41, 42, 43] := by decide
  have h43 : groupSeqs 43 2 = [43, 44] := by decide
  simp only [GroupComplete, GroupRecoverable, GroupExpired, h42, h41, h40, h43, List.forall_mem_cons, List.exists_mem_cons_iff,
    List.not_mem_nil, false_and, exists_false, false_implies, implies_true]
  refine ⟨?_, ?_, ?_, ?_, ?_, ?_⟩ <;> decide +kernel

theorem witness_StampRunReanchors :
    let st : Stream := { anchored .playing ring42 with mismatchRun := 3 }
    let f := audioAt 7 43 124677
    let s := withCells [cellOfWord 0 5] (offeredAt st f)
    s.port.intake = [f] ∧ s.port.handed = [.admission] ∧ (s.stream 0).running = true ∧ (s.stream 0).localPlay = true
      ∧ (s.stream 0).anchor = some anchor40 ∧ s.tlu.htEst f.arrival = some 2000
      ∧ framePayloadLength f.bytes = (s.stream 0).n * (s.stream 0).channels * 3
      ∧ ((s.stream 0).slotOf anchor40 43).state = .empty ∧ 3 ≤ (s.stream 0).mismatchRun
      ∧ Passed 43 (s.stream 0).breakSeq = false
      ∧ (s.stream 0).tol < (signed48 124677 (stampOf (s.stream 0) anchor40.a (anchor40.eBase + ((43 : Seq) - anchor40.base).toNat))).natAbs
      ∧ s.tlu.timeState = .locked ∧ s.pool.wf = true
      ∧ s.pool.charged 0 + (s.stream 0).k ≤ (s.stream 0).quota ∧ (s.stream 0).k ≤ s.pool.free := by decide +kernel

/-- A PARITY frame of the group 42, 43 of stream 7, with slot 42 filled and 43 empty. -/
def parity42 : List Byte := frame 2 (7 + 32) 7 5 42 0 payload16
def offeredParity : State := given [.parity] parity42
  (withCells [cellOfWord 0 5] (withStream (anchored .playing ring42)))

theorem witness_ParityTakesTheHolder :
    let s := offeredParity
    let st := s.stream 0
    s.port.handed = [.parity] ∧ st.key = frameKey parity42 ∧ (∀ j : Fin 8, j ≠ 0 → (s.stream j).state = .idle)
      ∧ st.localPlay = true ∧ st.running = true ∧ st.anchor = some anchor40 ∧ st.g ≠ 0 ∧ frameGroup parity42 = st.g
      ∧ st.depth ≤ 64 ∧ framePayloadLength parity42 = st.n * st.channels * 3
      ∧ ¬(1 ≤ (anchor40.base - frameSeq parity42).toNat ∧ (anchor40.base - frameSeq parity42).toNat ≤ 32767)
      ∧ ((frameSeq parity42 + BitVec.ofNat 16 st.g - 1) - anchor40.base).toNat < st.depth
      ∧ st.endSeq = none ∧ st.breakSeq = none ∧ s.pool.charged 0 + st.k ≤ st.quota ∧ st.k ≤ s.pool.free
      ∧ groupSeqs (frameSeq parity42) st.g = [42, 43] ∧ (st.slotOf anchor40 42).state = .filled
      ∧ (st.slotOf anchor40 43).state = .empty ∧ s.pool.wf = true
      ∧ parity42.length = framePayloadLength parity42 + 20
      ∧ (let s2 := given [.parity] parity42 (withCells [cellOfWord 0 5, cellOfWord 1 6] (withStream { st with
          holder := some ⟨42, 2, [1]⟩ }))
         (s2.stream 0).holder ≠ none ∧ s2.pool.wf = true ∧ s2.pool.charged 0 + st.k ≤ st.quota) := by decide +kernel

/-- Parity for a stream: of a group size, at a first sequence. -/
def parityAt (g : Nat) (first : Nat) : InFrame :=
  ⟨frame 2 (BitVec.ofNat 8 (7 + 32 * (g - 1))) 7 5 (BitVec.ofNat 16 first) 0 payload16, 1000⟩

/-- Each refusal of the anchored path at the edge of its range, groups of two from base 40 with depth 4; a group with a MISSED
slot and one all good; and the relay-only path with its link down and up. -/
theorem witness_ParityRefusalsAndCopies :
    (let s := given [.parity] (parityAt 2 42).bytes (withStream (anchored .playing ring4243))
     s.port.intake = [parityAt 2 42] ∧ s.port.handed = [.parity] ∧ s.du.gathered = false ∧ (s.stream 0).running = true
       ∧ (s.stream 0).localPlay = true ∧ (s.stream 0).anchor = some anchor40 ∧ (s.stream 0).key = frameKey (parityAt 2 42).bytes
       ∧ s.relay.link ≠ .up ∧ ((s.stream 0).slotOf anchor40 43).state = .missed)
     ∧ (stream7 .listening).running = false ∧ ({ relayOnly with state := .loaded } : Stream).state ≠ .listening
     ∧ frameGroup (parityAt 3 42).bytes ≠ 2 ∧ frameGroup (parityAt 2 42).bytes = 2
     ∧ Follows 40 39 ∧ 4 ≤ ((43 : Seq) + BitVec.ofNat 16 2 - 1 - 40).toNat ∧ ((42 : Seq) + BitVec.ofNat 16 2 - 1 - 40).toNat < 4
     ∧ Passed 43 (some 42) = true ∧ (relayOnly.quota < 8 + relayOnly.k)
     ∧ (groupSeqs 41 2).all (fun x =>
         ((anchored .playing [Slot.vacant, filled 41 1, filled 42 0, Slot.vacant]).slotOf anchor40 x).good) = true
     ∧ (let s := given [.parity] (parityAt 2 42).bytes (withStream relayOnly)
        (s.stream 0).state = .listening ∧ (s.stream 0).localPlay = false ∧ (s.stream 0).relay = true ∧ s.pool.wf = true
          ∧ s.pool.charged 0 + (s.stream 0).k ≤ (s.stream 0).quota ∧ (s.stream 0).k ≤ s.pool.free
          ∧ framePayloadLength (parityAt 2 42).bytes = (s.stream 0).n * (s.stream 0).channels * 3
          ∧ (parityAt 2 42).bytes.length = framePayloadLength (parityAt 2 42).bytes + 20
          ∧ (s.relay.queue 0).entries.length < 32)
     ∧ (∀ n ∈ [31, 32], ∀ relay ∈ [true, false],
        let s := linked n (given [.parity] (parityAt 2 42).bytes
          (withStream { anchored .playing ring4243 with relay := relay }))
        (s.stream 0).relay = relay ∧ s.relay.link = .up ∧ s.pool.wf = true ∧ (s.stream 0).k ≤ s.pool.free
          ∧ (s.relay.queue (s.relay.queueFor (some (s.stream 0).prio) (frameClass (parityAt 2 42).bytes)
              (frameSource (parityAt 2 42).bytes))).entries.length = n) := by decide +kernel

/-- The same stream with its parity held and its request waiting; `quota` and what the pool holds vary. -/
def waiting (quota : Nat) : State :=
  { withCells [cellOfWord 0 5, cellOfWord 1 6] (withStream { anchored .playing ring42 with
      holder := some ⟨42, 2, [1]⟩, quota := quota }) with requests := [0] }

theorem witness_RecoveryStartResult :
    let s := waiting 8
    s.recovery = none ∧ s.requests = [0] ∧ (s.stream 0).holder = some ⟨42, 2, [1]⟩ ∧ (s.stream 0).anchor = some anchor40
      ∧ groupSeqs 42 2 = [42, 43] ∧ ((s.stream 0).slotOf anchor40 43).state = .empty
      ∧ ((s.stream 0).slotOf anchor40 42).state = .filled
      ∧ s.pool.charged 0 + (s.stream 0).k ≤ (s.stream 0).quota ∧ (s.stream 0).k ≤ s.pool.free ∧ s.pool.wf = true
      ∧ ¬(waiting 2).pool.charged 0 + ((waiting 2).stream 0).k ≤ ((waiting 2).stream 0).quota
      ∧ (waiting 2).du.gathered = false := by decide +kernel

/-- An operation due to complete: its target RECOVERING, or filled meanwhile by its own frame. -/
def operation : RecoveryOp := ⟨some 0, 43, 3, [42], 16, [1], [2], 900, 40⟩
def recovering (target : Slot) : State :=
  { withCells [cellOfWord 0 5, cellOfWord 1 6, cellOfWord 2 0]
      (withStream (anchored .playing [Slot.vacant, Slot.vacant, filled 42 0, target])) with recovery := some operation }
def target43 : Slot := ⟨.recovering, 43, .current, 3, []⟩

theorem witness_RecoveryCompletionResult :
    let s := recovering target43
    s.recovery = some operation ∧ operation.duration ≤ (s.lc - operation.start).toNat
      ∧ (s.stream 0).anchor = some anchor40 ∧ operation.position < (s.stream 0).ring.length ∧ (s.stream 0).holder = none
      ∧ ((s.stream 0).slotAt operation.position).state = .recovering ∧ s.pool.wf = true ∧ operation.outCells.Nodup
      ∧ (∀ id ∈ operation.outCells, id ∉ operation.parityCells ∧ ∃ c ∈ s.pool.held, c.id = id)
      ∧ operation.nWords ≤ 128 * operation.outCells.length ∧ operation.nWords ≤ 128 * operation.parityCells.length
      ∧ (∀ id ∈ operation.parityCells, (s.pool.words id).length = 128)
      ∧ operation.operands = [42] ∧ operation.nWords ≤ 128 * ((s.stream 0).slotOf anchor40 42).cells.length
      ∧ (∀ id ∈ ((s.stream 0).slotOf anchor40 42).cells, (s.pool.words id).length = 128)
      ∧ ((recovering (filled 43 0)).stream 0 |>.slotAt operation.position).state ≠ .recovering
      ∧ ({ operation with stream := none } : RecoveryOp).stream = none
      ∧ ((recovering Slot.vacant).stream 0 |>.slotAt operation.position).state ≠ .recovering
      ∧ (∀ first ∈ ([42, 43] : List Nat), let hd : ParityHolder := ⟨BitVec.ofNat 16 first, 2, [0]⟩
          (operation.target - hd.first).toNat < hd.g ∧ ∀ id ∈ operation.outCells, id ∉ hd.cells)
      ∧ ¬((43 : Seq) - 41).toNat < 2 ∧ (stream7 .listening).anchor = none := by decide +kernel

/-- An output period at edge 115,500 for channel 2's primary reader. -/
def period2 : OutputPeriod := ⟨115500, [(.primary 2, 0, 0)], [], Vector.replicate 8 0, Vector.replicate 8 0⟩

/-- Stream 0 read in that period, in frame 42. -/
def reading (st : StreamState) : State :=
  let s := (withCells [cellOfWord 0 5] (withStream { anchored st ring42 with channels := 1 })).setChannel 2
    { Channel.afterReset with primarySrc := some ⟨0, 0⟩, primaryPos := ⟨.current, some 8200, some 2⟩ }
  { s with lc := 115500, lanes := { s.lanes with period := some period2 } }

theorem witness_ReaderHandsItsSample :
    let s := reading .playing
    let st := s.stream 0
    s.lanes.period = some period2
      ∧ period2.dueSource (.primary 2) = some (0, 0) ∧ s.du.gathered = false ∧ st.state = .playing ∧ st.localPlay = true
      ∧ (s.readerPos (.primary 2)).seg = .current ∧ st.anchor = some anchor40 ∧ s.tlu.htEst 115500 = some 116500
      ∧ 0 ≤ signed48 (116500 + BitVec.ofNat 48 (s.readerLatency (.primary 2))) anchor40.a
      ∧ st.endSeq = none ∧ st.breakSeq = none ∧ st.depth ≤ 64 ∧ 0 < st.channels ∧ 0 < st.n
      ∧ (let q := max 8200 (16500 * 48000 / 96000)
         let e := q / 256 / st.n
         q / 256 % st.n + 1 < st.n ∧ (s.readerPos (.primary 2)).frame = some e
           ∧ ((anchor40.b + BitVec.ofNat 16 e) - anchor40.base).toNat < st.depth
           ∧ (st.slotOf anchor40 (anchor40.b + BitVec.ofNat 16 e)).good = true
           ∧ (st.slotOf anchor40 (anchor40.b + BitVec.ofNat 16 e)).cells = [0])
      ∧ s.readerStream (.primary 2) = some 0
      ∧ ((reading .listening).stream 0).running = false := by decide +kernel

/-- The reader of `reading`, mapped to stream 1 since the edge. -/
def departed : State := (reading .playing).setChannel 2 { Channel.afterReset with primarySrc := some ⟨1, 0⟩ }

/-- A reader that has left its stream since the edge still hands a sample of it (R134): at position 8250, between two words
of 5. Its own new place and the stream are as they were. -/
theorem test_departed_reader :
    departed.readerStream (.primary 2) ≠ some 0
      ∧ after (.readerPeriod (.primary 2)) departed
        = departed.setPeriod (some ((period2.served (.primary 2)).hand (.primary 2) 5)) := by decide +kernel

/-- The last sample of frame 42, with frame 43 absent and good: the reader's last position holds it there. -/
theorem witness_ReaderHandsItsSample_last :
    let q := max 12032 (16500 * 48000 / 96000)
    q / 256 / 16 = 2 ∧ q / 256 % 16 + 1 = 16 ∧ ((43 : Seq) - anchor40.base).toNat < 4
      ∧ ((anchored .playing ring42).slotOf anchor40 43).good = false
      ∧ ((anchored .playing [Slot.vacant, Slot.vacant, filled 42 0, filled 43 1]).slotOf anchor40 43).good = true
      ∧ BeforeEnd (anchored .playing ring42) anchor40 3 ∧ BeforeBreak (anchored .playing ring42) anchor40 3 :=
  ⟨by decide, by decide, by decide, by decide, by decide, (by intro x h; cases h), (by intro x h; cases h)⟩

/-- A stream read by channel 2 alone in that period, house time 116,500: position 8250, at the start of frame 2; the reader was
in frame 1. -/
def entering (st : Stream) : State :=
  let s := (withCells [cellOfWord 0 5, cellOfWord 1 6] (withStream st)).setChannel 2
    { Channel.afterReset with primarySrc := some ⟨0, 0⟩, primaryPos := ⟨.current, some 8190, some 1⟩ }
  { s with lc := 115600, lanes := { s.lanes with period := some period2 } }

/-- Frame 41 good, frame 42 in a state of its own. -/
def lacking (x : SlotState) : List Slot := [Slot.vacant, filled 41 1, ⟨x, 42, .current, 2, []⟩, Slot.vacant]

theorem stands_entering : ∀ st ∈ [anchored .primed ring42, anchored .playing (lacking .missed), anchored .playing (lacking .recovering),
      { anchored .playing ring42 with missedRun := 7 }], (entering st).lanes.period = some period2
    ∧ ((entering st).stream 0).running = true ∧ ((entering st).stream 0).localPlay = true
    ∧ ((entering st).stream 0).anchor = some anchor40 ∧ ((entering st).readerPos (.primary 2)).seg = .current
    ∧ (entering st).lead 0 = some (.primary 2) ∧ (entering st).trail 0 = some (.primary 2)
    ∧ (entering st).tlu.htEst period2.edge = some 116500
    ∧ 0 ≤ signed48 (116500 + BitVec.ofNat 48 ((entering st).readerLatency (.primary 2))) anchor40.a
    ∧ 8250 = max (((entering st).readerPos (.primary 2)).last.getD 0) (16500 * st.fs / 96000)
    ∧ 2 = 8250 / 256 / st.n := by decide +kernel

/-- The whole of `Stands` for one of them. -/
theorem witness_Stands : Stands (entering (anchored .playing ring42)) period2 (.primary 2) 0 0 anchor40 8250 :=
  ⟨by decide +kernel, by decide, by decide +kernel, by decide +kernel, by decide +kernel, by decide +kernel, by decide +kernel,
    116500, by decide +kernel, by decide +kernel, by decide +kernel⟩

theorem witness_LeadEntersFrames :
    ((entering (anchored .primed ring42)).stream 0).state = .primed
      ∧ BeforeEnd (anchored .playing ring42) anchor40 2 ∧ BeforeBreak (anchored .playing ring42) anchor40 2
      ∧ (anchored .playing ring42).ring.length = (anchored .playing ring42).depth
      ∧ ((entering (anchored .playing ring42)).readerPos (.primary 2)).frame ≠ some 2
      ∧ ((anchored .playing ring42).slotOf anchor40 42).good = true
      ∧ ((anchored .playing (lacking .recovering)).slotOf anchor40 42).state = .recovering
      ∧ ((anchored .playing (lacking .missed)).slotOf anchor40 42).state = .missed
      ∧ (42 : Seq) = anchor40.b + BitVec.ofNat 16 2 ∧ ¬Follows anchor40.base 42
      ∧ 4 ≤ ((44 : Seq) - anchor40.base).toNat ∧ 8 ≤ ({ anchored .playing ring42 with missedRun := 7 } : Stream).missedRun + 1
      ∧ signed48 (99999 : Time) anchor40.a < 0
      ∧ (((42 : Seq) - 41).toNat < 2 ∧ ¬((42 : Seq) - 43).toNat < 2
        ∧ { anchored .playing (lacking .recovering) with holder := some ⟨41, 2, [1]⟩ }.holder ≠ none) :=
  ⟨by decide +kernel, (by intro x h; cases h), (by intro x h; cases h), by decide, by decide +kernel, by decide, by decide,
    by decide, by decide, by decide, by decide, by decide, by decide, by decide, by decide, by decide⟩

/-- A base one frame short of 2^30, whose next frame is good: the retirement that rebases. -/
def far : Anchor := ⟨100000, 40, 2 ^ 30 - 1, 39, 3⟩

theorem witness_TrailRetires :
    ((anchored .playing ring42).slotOf anchor40 42).good = true ∧ anchor40.eBase < 2
      ∧ (anchored .playing ring42).ring.length = (anchored .playing ring42).depth
      ∧ (anchored .playing ring42).missedRun < 7 ∧ (anchored .playing ring42).depth ≤ 64
      ∧ ((groupSeqs 41 2).any (fun y => decide (Follows 42 y)) = true
        ∧ (groupSeqs 42 2).any (fun y => decide (Follows 42 y)) = false ∧ ((42 : Seq) - 41).toNat < 2)
      ∧ ((anchored .playing (lacking .missed)).slotOf anchor40 42).good = false ∧ anchor40.eBase < 2 - 1
      ∧ (let st : Stream := { anchored .playing [filled 40 0, Slot.vacant, Slot.vacant, filled 39 1] with anchor := some far }
         far.eBase < 2 ^ 30 ∧ far.b + BitVec.ofNat 16 (2 ^ 30) = 40 ∧ ((40 : Seq) - far.base).toNat < st.depth
           ∧ (st.slotOf far 40).good = true) := by decide +kernel

theorem witness_MissingFramesAreConcealed :
    let st := anchored .playing (lacking .missed)
    (st.slotOf anchor40 42).good = false ∧ (st.slotOf anchor40 41).good = true ∧ 8250 / 256 % st.n + 1 < st.n ∧ 0 < st.channels
      ∧ ((41 : Seq) - anchor40.base).toNat < st.depth ∧ ¬Follows anchor40.base 42 ∧ Follows anchor40.base 39
      ∧ st.channels ≤ 1 ∧ (st.slotOf anchor40 40).good = false
      ∧ anchor40.base = anchor40.b + BitVec.ofNat 16 anchor40.eBase ∧ 2 < anchor40.eBase + st.depth
      ∧ (∀ j, j < st.depth → (st.slotOf anchor40 (anchor40.base + BitVec.ofNat 16 j)).good = true →
          (st.slotOf anchor40 (anchor40.base + BitVec.ofNat 16 j)).idx = anchor40.eBase + j)
      ∧ ((entering st).readerPos (.primary 2)).frame ≠ some 2 ∧ ((reading .playing).readerPos (.primary 2)).frame = some 2
      ∧ 12032 / 256 % st.n + 1 = st.n ∧ (st.slotOf anchor40 43).good = false
      ∧ ((anchored .playing [Slot.vacant, Slot.vacant, ⟨.missed, 42, .current, 2, []⟩, filled 43 1]).slotOf anchor40 43).good = true := by
  decide +kernel

/-- The target 43 of an operation on 42 returns to EMPTY when 42 is emptied, by retirement or by a switch, and stays when the
emptied slot is no operand's (R102). -/
theorem test_target_returns :
    let s := recovering target43
    let ring := (s.stream 0).ring
    emptiedRing s 0 ring (fun sl => sl.seq == 42) = List.replicate 4 Slot.vacant
      ∧ (s.emptySlots 0 (fun sl => sl.seq == 42)).stream 0 = { s.stream 0 with ring := List.replicate 4 Slot.vacant }
      ∧ (s.emptySlots 0 (fun sl => sl.seq == 41)).stream 0 = s.stream 0 := by decide +kernel

/-- A MISSED slot past the break, marked before the break was known. With no pending anchor the switch leaves every slot EMPTY;
with one at 43 it empties the slot of 42, which precedes it, and keeps that of 43 with the index 0 and that of 44, marked in
the old segment, with its index in the new one (R58, R74). -/
theorem test_switch_leaves_no_slot_outside :
    let marked (q : Seq) (e : Nat) : Slot := ⟨.missed, q, .current, e, []⟩
    let before (pa : Option PendingAnchor) (ring : List Slot) : State :=
      withStream { anchored .playing ring with breakSeq := some 41, pendingAnchor := pa }
    (((before none [Slot.vacant, filled 41 0, marked 42 2, Slot.vacant]).switchSegment 0).stream 0 |>.ring)
        = List.replicate 4 Slot.vacant
      ∧ (((before (some ⟨200000, 43⟩) [marked 44 4, filled 41 0, marked 42 2, { filled 43 1 with seg := .pending, idx := 0 }]
          ).switchSegment 0).stream 0 |>.ring)
        = [⟨.missed, 44, .current, 1, []⟩, Slot.vacant, Slot.vacant, { filled 43 1 with seg := .current, idx := 0 }] := by
  decide +kernel

/-- Past the end at 41 and past the break at 41 in frame 42; a second break at 41 of a pending segment that began there. -/
theorem witness_EndAndSegmentSwitch :
    (∃ x, ({ anchored .draining ring42 with endSeq := some 41 } : Stream).endSeq = some x ∧ Passed x none = false
        ∧ ¬2 ≤ anchor40.eBase + (x - anchor40.base).toNat)
      ∧ (∃ k, ({ anchored .playing ring42 with breakSeq := some 41 } : Stream).breakSeq = some k
        ∧ anchor40.eBase + (k - anchor40.base).toNat < 2)
      ∧ BeforeEnd (anchored .playing ring42) anchor40 2
      ∧ (entering { anchored .playing ring42 with breakSeq := some 41 }).trail 0 = some (.primary 2)
      ∧ signed48 (116500 : Time) 116501 < 0
      ∧ (let s := (entering { anchored .playing ring42 with
            breakSeq := some 40, pendingAnchor := some ⟨100000, 41⟩, secondBreak := some 41 }).setReaderPos (.primary 2)
            ⟨.pending, some 8000, some 0⟩
         (s.readerPos (.primary 2)).seg = .pending ∧ s.readerStream (.primary 2) = some 0 ∧ 0 ≤ signed48 (116500 : Time) 100000
           ∧ ((41 : Seq) - 41).toNat < max 8000 (16500 * 48000 / 96000) / 256 / 16) := by
  refine ⟨⟨41, by decide⟩, ⟨41, by decide⟩, ?_, ?_⟩
  · intro x h; cases h
  · decide +kernel

/-- An output period in which both samples of channel 0 have been handed. -/
def period0 : OutputPeriod :=
  ⟨512, [], [0], #v[6000000, 0, 0, 0, 0, 0, 0, 0], #v[7000000, 0, 0, 0, 0, 0, 0, 0]⟩

/-- Channel 0 in that period; its overlay stream playing. -/
def mixing : State :=
  let s := (withStream (stream7 .playing)).setChannel 0
    { Channel.afterReset with overlaySrc := some ⟨0, 0⟩, gP := 16384, gO := 20000, duck := 4096, eP := 4096, eO := 19968 }
  { s with lanes := { s.lanes with period := some period0 } }

theorem witness_ChannelMixesItsPeriod :
    mixing.lanes.period = some period0 ∧ 0 ∈ period0.channelsDue
      ∧ period0.dueSource (.primary 0) = none ∧ period0.dueSource (.overlay 0) = none
      ∧ (mixing.stream 0).state = .playing ∧ (mixing.channel 0).mute = false
      ∧ 700 % (64 * 8) / 8 = 23 ∧ (2 : Nat) = 2 * 1 := by decide +kernel

theorem witness_assigned : assigned.ident.node ≠ 0 := by decide

theorem witness_UnassignedAndAssignNodeResult : State.reset.ident.node = 0
    ∧ (∀ serial node groups, Item.reset ≠ .assignNode serial node groups) ∧ (∀ reqs, Item.reset ≠ .query reqs) := by
  refine ⟨by decide, ?_, ?_⟩ <;> intros <;> simp

theorem witness_UnassignedAndAssignNodeResult_assign : ([0xFF01, 0xFF02] : List NodeId).length ≤ 4 ∧ (1 : BitVec 48) ≠ State.reset.ident.serial
    ∧ (0 : BitVec 48) = State.reset.ident.serial ∧ State.reset.du.gathered = false := by decide

theorem witness_SetTimeSourceResult :
    0xFF00 ≤ (0xFF00 : NodeId).toNat ∧ (5 : NodeId).toNat < 0xFF00
      ∧ (let s : State := { assigned with tlu := tluIn .locked 2 }
         (5 : NodeId) = s.tlu.source ∧ s.tlu.allowance = 0 ∧ s.tlu.lastBeat = some (10, 0)
           ∧ (s.lc - 10).toNat ≤ 5 * 2457600 ∧ s.tlu.holdoverStart = none ∧ (6 : NodeId) ≠ s.tlu.source)
      ∧ (∀ st ∈ [TimeState.acquiring, .settling, .locked], let s : State := { assigned with lc := 12288011, tlu := tluIn st 2 }
         s.tlu.lastBeat = some (10, 0) ∧ 5 * 2457600 < (s.lc - 10).toNat ∧ s.tlu.timeState = st)
      ∧ (let s : State := { assigned with tlu := { tluIn .holdover 2 with holdoverStart := some 1000 } }
         s.tlu.timeState = .holdover ∧ s.tlu.holdoverStart = some 1000 ∧ 0 ≤ (s.lc - 1000).toNat)
      ∧ (let s : State := { assigned with lc := 12289000, tlu := { tluIn .holdover 2 with holdoverStart := some 12288999 } }
         s.tlu.timeState = .holdover ∧ s.tlu.holdoverStart = some 12288999 ∧ (s.lc - 12288999).toNat < 1 * 24576000
           ∧ s.tlu.lastBeat = some (10, 0) ∧ 5 * 2457600 < (s.lc - 10).toNat) := by decide

/-- A locked part whose link is up, with regeneration at an interval. -/
def regenerating (interval : Nat) : State := { assigned with
  tlu := tluIn .locked 0
  relay := { assigned.relay with
    link := .up, interval := interval, timer := if interval = 0 then none else some 5000 } }

theorem witness_SettingsItemsResult :
    (regenerating 2457600).tlu.hasEstimate = true ∧ (regenerating 2457600).relay.link = .up
      ∧ (regenerating 2457600).relay.timer.isSome = true ∧ (regenerating 0).relay.timer = none
      ∧ (regenerating 0).relay.interval = 0 ∧ assigned.tlu.hasEstimate = false ∧ assigned.relay.timer = none := by decide

/-- The parameters of an item that loads stream 7 at an index. -/
def load7 (index : Byte) : LoadParams := ⟨index, 7, 48000, 1, 16, 4, 8, 2, 1, 9, 5000, 100⟩

theorem witness_LoadStreamResult : 8 ≤ (load7 8).index.toNat ∧ (load7 0).index.toNat = (0 : Fin 8).val
    ∧ (assigned.stream 0).state = .idle := by decide

theorem witness_OpenAndCloseStreamResult : 8 ≤ (8 : Byte).toNat ∧ (7 : Byte).toNat = (7 : Fin 8).val
    ∧ ((withStream (stream7 .loaded)).stream 0).state = .loaded ∧ ((withStream (stream7 .playing)).stream 0).state ≠ .idle
    ∧ ((withStream (stream7 .playing)).stream 0).state ≠ .loaded := by decide

theorem witness_UnloadStreamResult : 8 ≤ (8 : Byte).toNat ∧ (0 : Byte).toNat = (0 : Fin 8).val ∧ (7 : Byte).toNat = (7 : Fin 8).val
    ∧ ((withStream (stream7 .loaded)).stream 0).state = .loaded ∧ ((withStream (stream7 .ended)).stream 0).state ≠ .loaded := by
  decide

theorem witness_MapChannelResult :
    8 ≤ (8 : Byte).toNat ∧ ((8 : Byte) ≠ 0xFF ∧ 8 ≤ (8 : Byte).toNat) ∧ (7 : Byte).toNat = (7 : Fin 8).val
      ∧ (SourceBytes.mk 0xFF 0).stream = 0xFF ∧ (SourceBytes.mk 7 3).stream.toNat = (7 : Fin 8).val
      ∧ (SourceBytes.mk 7 3).chan.toNat = (3 : Fin 8).val := by decide

theorem witness_LaneAndModeItemsResult :
    let s : State := { assigned with lanes := { assigned.lanes with rateChange := some (96000, 1000) } }
    s.lanes.rateChange = some (96000, 1000) ∧ 0 ≤ signed48 s.lc 1000 ∧ s.ident.node ≠ 0 := by decide

/-- The part in ACTIVE. -/
def active (s : State) : State := { s with ident := { s.ident with mode := .active } }

theorem witness_LaneAndModeItemsResult_mode : (2 : Byte) ≠ 0 ∧ (2 : Byte) ≠ 1 ∧ assigned.ident.mode = .standby
    ∧ (active assigned).ident.mode = .active ∧ ((active (withStream (stream7 .playing))).stream 0).state = .playing := by decide

theorem witness_RelayTablesResult : 16 ≤ (16 : Byte).toNat ∧ (15 : Byte).toNat = (15 : Fin 16).val := by decide

/-- SET_QUEUES bodies, in range and out. -/
def queues4 (count : Byte) : QueueParams :=
  ⟨count, #v[0, 0, 1, 1, 2, 2, 3, 3], #v[1, 1, 0, 0], #v[4, 12, 0, 200]⟩

theorem witness_SetQueuesResult :
    (1 ≤ (queues4 4).count.toNat ∧ (queues4 4).count.toNat ≤ 4
      ∧ (∀ b ∈ (queues4 4).map.toList, b.toNat < (queues4 4).count.toNat) ∧ (∀ b ∈ (queues4 4).types.toList, b.toNat ≤ 1))
    ∧ ¬(∀ b ∈ (queues4 3).map.toList, b.toNat < (queues4 3).count.toNat) := by decide

theorem witness_SettingsItemsResult_mark :
    ({ assigned with pool := ⟨[], 1024, 64⟩ } : State).pool.free = 1024
      ∧ (withCells (List.replicate 2 (cellOfWord 0 0)) assigned).pool.free < min 1023 (1023 : BitVec 16).toNat := by
  decide +kernel

/-- Lines 2 and 0 with accepted levels low and high; a match that already holds. -/
def lined (holds : Bool) : State := { assigned with lines := { assigned.lines with
  accepted := #v[some true, none, some false, none], matchHolds := holds } }

theorem witness_SetLinesResult :
    ((4 : Byte).setWidth 4 ≠ (0 : BitVec 4) ∧ ∀ n : Fin 4, (4 : Byte).getLsbD n.val = true →
        (lined false).lines.accepted[n] = some ((0 : Byte).getLsbD n.val))
      ∧ ¬(∀ n : Fin 4, (2 : Byte).getLsbD n.val = true → (lined false).lines.accepted[n] = some ((0 : Byte).getLsbD n.val))
      ∧ (lined true).lines.matchHolds = true ∧ (lined false).lines.matchHolds = false := by decide

theorem witness_ClearAttentionResult : 8 ≤ (8 : Byte).toNat ∧ (8 : Byte) ≠ 0xFF ∧ (7 : Byte).toNat < 8 := by decide

theorem witness_QueryResult_list :
    [QueryRequest.mk 1 0 0, ⟨9, 0, 0⟩, ⟨3, 8, 0⟩] = [QueryRequest.mk 1 0 0] ++ QueryRequest.mk 9 0 0 :: [⟨3, 8, 0⟩]
      ∧ RequestPasses ⟨1, 0, 0⟩ ∧ RequestPasses ⟨7, 0xFF, 1⟩ ∧ RequestPasses ⟨7, 7, 1⟩ ∧ ¬RequestPasses ⟨7, 8, 1⟩
      ∧ RequestPasses ⟨3, 7, 0⟩ ∧ ¬RequestPasses ⟨3, 8, 0⟩ ∧ RequestPasses ⟨8, 9, 0⟩ ∧ ¬RequestPasses ⟨9, 0, 0⟩
      ∧ 4 + 3 * (3 + 412) + (3 + 157) ≤ 1440 ∧ 1440 < 4 + 3 * (3 + 412) + (3 + 217) := by
  unfold RequestPasses
  refine ⟨rfl, ?_, ?_, ?_, ?_, ?_, ?_, ?_, ?_, ?_, ?_⟩ <;> decide

/-- A record that does not fit in 1440 bytes is left out with every later one, and the truncation shows (R171); a reply that finds
eight frames waiting reduces no counter (R168). -/
theorem test_query_truncates :
    let t := after (.query asking [⟨5, 0, 0⟩, ⟨5, 0, 0⟩, ⟨5, 0, 0⟩, ⟨7, 0xFF, 1⟩, ⟨4, 0, 0⟩])
      { assigned with pool := ⟨[], 7, 64⟩ }
    t.pool.leastFree = 7 ∧ t.partCount .itemsApplied = 1
      ∧ t.du.reportQueue.map (fun f => (f.length, byteAt f 19)) = [(16 + 4 + 3 * 415 + 4, 1)] := by decide +kernel
theorem test_query_dropped :
    let t := after (.query asking [⟨7, 0xFF, 1⟩]) { assigned with
      counters := assigned.counters.map (fun _ => 5), du := { assigned.du with reportQueue := List.replicate 8 [] } }
    t.partCount .framesIn = 5 ∧ t.partCount .reportDrop = 6 := by decide +kernel

/-- The optional fields of an IDLE record are absent: the presence byte and their bytes, at offsets 24 to 51, are zero (R43,
R196); while a rate waits the record gives the one in force (R139, R141). -/
theorem test_idle_record_and_rate :
    (State.reset.streamRecord 3).take 3 = [3, 0, 0] ∧ ((State.reset.streamRecord 3).drop 24).take 28 = List.replicate 28 0
      ∧ (let s : State := { assigned with lanes := { assigned.lanes with rateChange := some (96000, 1000) } }
         s.channelRecord.take 4 = leBytes 4 48000) := by decide +kernel

theorem witness_QueryResult :
    8 < (QueryRequest.mk 9 0 0).type.toNat ∧ (QueryRequest.mk 0 0 0).type.toNat = 0
      ∧ (QueryRequest.mk 3 8 0).type = 3 ∧ 8 ≤ (QueryRequest.mk 3 8 0).arg.toNat
      ∧ (QueryRequest.mk 7 8 0).arg ≠ 0xFF
      ∧ (checkRequest ⟨4, 0, 0⟩).toOption = some .store ∧ (checkRequest ⟨7, 2, 1⟩).toOption = some (.counters (.stream 2) true)
      ∧ (checkRequest ⟨7, 0xFF, 1⟩).toOption = some (.counters .part true)
      ∧ asking.replyWanted = true ∧ quiet.replyWanted = false ∧ assigned.du.gathered = false
      ∧ assigned.du.reportQueue.length < 8 := by decide

theorem witness_DirectedResetResult : assigned.ident.node ≠ 0 ∧ asking.replyWanted = true ∧ quiet.replyWanted = false := by
  decide

theorem witness_DirectiveEnd : asking.replyWanted = true ∧ quiet.replyWanted = false ∧ assigned.du.gathered = false
    ∧ assigned.du.reportQueue.length < 8
    ∧ ({ assigned with du := { assigned.du with gathered := true } } : State).du.gathered = true
    ∧ 8 ≤ (List.replicate 8 ([] : List Byte)).length
    ∧ (let s := selecting (.opening 990) (full 4)
       s.port.select = .opening 990 ∧ 4 ≤ s.port.intake.length ∧ s.ident.node ≠ 0 ∧ s.du.noticeMask.getLsbD 8 = true
         ∧ s.partSet .intakeDrop = false) := by decide

/-- A DIRECTIVE with a payload, handed to the Directive Unit. -/
def directive (payload : List Byte) : List Byte := frame 4 39 0x12 5 1 0 payload
def handedDirective (payload : List Byte) : State := given [.directives] (directive payload) assigned

theorem witness_DirectiveTakenResult :
    (handedDirective []).port.handed = [.directives] ∧ framePayload (directive []) = []
      ∧ (framePayload (directive [0])).head? = some 0 ∧ (handedDirective []).du.gathered = false
      ∧ itemLengthOk (.openStream 3) = true ∧ framePayload (directive [1, 6, 1, 3]) = encodeItems [.openStream 3]
      ∧ assigned.ident.node ≠ 0
      ∧ framePayload (directive [2, 18, 1, 60, 6, 1, 3]) = encodeItems [.setRelayMargin 60, .openStream 3] := by decide

/-- Two items, the second of them refused in the state the first left; and a second that fails each test among 1 to 4. -/
theorem witness_DirectiveTakenResult_order :
    (∃ s1, applyItem (.setRelayMargin 60) (headTaken (handedDirective [])) = .ok s1
        ∧ applyItem (.openStream 3) (s1.bump .itemsApplied) = .error .wrongState)
      ∧ framePayload (directive [2, 18, 1, 60, 24, 0]) = BitVec.ofNat 8 2 :: ([Item.setRelayMargin 60].flatMap encodeItem ++ [24, 0])
      ∧ ItemFails [24, 0] .badItem ∧ ItemFails [6] .badLength ∧ ItemFails [6, 1] .badLength ∧ ItemFails [6, 2, 0, 0] .badLength :=
  ⟨⟨_, rfl, rfl⟩, by decide, .inr ⟨24, 0, [], rfl, .inr (.inl (by decide))⟩, .inl (by decide),
    .inr ⟨6, 1, [], rfl, .inl (by decide)⟩, .inr ⟨6, 2, [0, 0], rfl, .inr (.inr (by decide))⟩⟩

theorem witness_PriorityDecision :
    let r : Relay := { Relay.afterReset false with
      wStream := 3, wClass := 2, wSource := 4, sources := (Vector.replicate 16 none).set 0 (some (5, 6)) }
    r.sourcePriority 5 = some (6 : Fin 8).val ∧ r.wClass < r.wSource ∧ r.wStream < r.wSource ∧ r.sourcePriority 6 = none
      ∧ r.wStream ≠ 0 ∧ r.wClass ≤ r.wStream ∧ r.classMap.toList[(7 : BitVec 3).toNat]? = some (7 : Fin 8).val
      ∧ (r.sources[(0 : Fin 16)] = some (5, 6) ∧ ∀ k < (0 : Fin 16), r.sources[k] = none)
      ∧ (∀ j : Fin 16, (r.sources[j].map (fun e => e.1)) ≠ some 6)
      ∧ r.wClass ≠ 0 ∧ ({ r with wClass := 0 } : Relay).wClass = 0 := by decide

/-- A DIRECTIVE closed by its trailer, for the Relay Unit and then the Directive Unit; link and pool vary. -/
def copied : List Byte := closed ([0x14, 7, 0x13, 0, 5, 0, 1, 0, 0, 0, 0, 0, 0, 0, 0, 0])
def copying (link : LinkState) (entries : Nat) : State :=
  let s := given [.relay, .directives] copied assigned
  { s with relay := { s.relay with
      link := link, queues := s.relay.queues.set 3 ⟨List.replicate entries (entryOf 20), false, 1, 0⟩ } }

theorem witness_RelayCopyResult :
    let s := copying .up 31
    s.port.handed = [.relay, .directives] ∧ s.du.gathered = false ∧ s.relay.link = .up ∧ (copying .down 0).relay.link ≠ .up
      ∧ s.relay.queueFor none (frameClass copied) (frameSource copied) = 3
      ∧ (s.relay.queue 3).entries.length < 32 ∧ 32 ≤ ((copying .up 32).relay.queue 3).entries.length
      ∧ (copied.length + 511) / 512 ≤ s.pool.free ∧ s.pool.wf = true ∧ 4 ≤ copied.length
      ∧ copied.drop (copied.length - 4) = leBytes 4 (crc32 (copied.take (copied.length - 4))).toNat := by decide +kernel

theorem witness_LinkChanges :
    let s : State := { assigned with relay := { assigned.relay with link := .qualifying 900 } }
    assigned.relay.link = .down ∧ s.relay.link = .qualifying 900 ∧ 0 ≤ signed48 s.lc 900 ∧ s.relay.timer = none
      ∧ (regenerating 0).relay.link = .up := by decide

/-- Stale and fresh heads: stamps behind and ahead of house time 2000. -/
def headAt (stamp : Time) : RelayEntry := ⟨.audio, none, [], stamp, 404, []⟩
def selectingFrom (q : RelayQueue) (i : Fin 4) : State := { regenerating 0 with
  relay := { (regenerating 0).relay with queues := (Vector.replicate 4 ⟨[], true, 1, 0⟩).set i q } }

theorem witness_SelectionResult :
    let s := selectingFrom ⟨[headAt 1, headAt 900000], false, 1, 0⟩ 2
    s.relay.link = .up ∧ s.relay.tx = none ∧ s.relay.beatPending = false ∧ (s.relay.queue 2).weighted = false
      ∧ (s.relay.queue 2).entries = [headAt 1, headAt 900000]
      ∧ (∀ q : Fin 4, (2 : Fin 4) < q → (s.relay.queue q).weighted = true)
      ∧ s.tlu.htEst s.lc = some 2000 ∧ signed48 (headAt 1).stamp 2000 < s.relay.margin
      ∧ ¬signed48 (headAt 900000).stamp 2000 < s.relay.margin
      ∧ (let w := selectingFrom ⟨[headAt 900000], true, 1, 404⟩ 0
         (∀ q : Fin 4, (w.relay.queue q).weighted = true) ∧ (w.relay.queue w.relay.pointer).entries = [headAt 900000]
           ∧ (headAt 900000).length ≤ (w.relay.queue w.relay.pointer).deficit)
      ∧ (∀ q : Fin 4, ((selectingFrom ⟨[], true, 1, 9⟩ 0).relay.queue q).entries = []) := by decide +kernel

/-- A weighted head that its deficit covers but is stale; one whose deficit falls a byte short, its queue the only one; and a
pointer at an empty queue, the next queue with an entry two places on. -/
theorem witness_SelectionResult_weighted :
    (let w := selectingFrom ⟨[headAt 1], true, 1, 404⟩ 0
     (∀ q : Fin 4, (w.relay.queue q).weighted = true) ∧ (∀ q : Fin 4, 1 ≤ (w.relay.queue q).weight)
       ∧ (w.relay.queue w.relay.pointer).entries = [headAt 1] ∧ (headAt 1).kind ≠ .directive
       ∧ w.tlu.htEst w.lc = some 2000 ∧ signed48 (headAt 1).stamp 2000 < w.relay.margin)
     ∧ 403 < (headAt 900000).length
     ∧ (let w := selectingFrom ⟨[headAt 900000], true, 1, 403⟩ 2
        w.relay.pointer = 0 ∧ (w.relay.queue 0).entries = [] ∧ (w.relay.queue 2).entries ≠ [] ∧ (2 + 3 - 0) % 4 = 1) := by
  decide +kernel

theorem witness_SelectionSendsOrEmpties :
    let s := selectingFrom ⟨[headAt 900000], true, 1, 0⟩ 1
    s.relay.link = .up ∧ s.relay.tx = none ∧ ∀ q : Fin 4, 1 ≤ (s.relay.queue q).weight := by decide +kernel

/-- Instants reached: a transmission of 20 bytes since LC 680, a regeneration timer and a presence timer at LC 1000. -/
def timed (entry : Option RelayEntry) : State := { assigned with
  relay := { assigned.relay with tx := some ⟨entry, 680, 20, []⟩, timer := some 1000 }
  ident := { assigned.ident with presenceTimer := some 1000 } }

theorem witness_TimedEvents :
    (timed none).relay.tx = some ⟨none, 680, 20, []⟩ ∧ 16 * 20 ≤ ((timed none).lc - 680).toNat
      ∧ (timed none).relay.timer = some 1000 ∧ (timed none).ident.presenceTimer = some 1000
      ∧ 0 ≤ signed48 (timed none).lc 1000 ∧ (timed none).du.reportQueue.length < 8
      ∧ 8 ≤ ({ timed none with du := { (timed none).du with reportQueue := List.replicate 8 [] } } : State).du.reportQueue.length := by
  decide

/-- A NOTICE and a BEAT, closed, as a satellite might send them. -/
def upward (kind : Nat) : List Byte := closed ([BitVec.ofNat 8 (kind + 16), 7] ++ List.replicate 14 0)

theorem witness_SatelliteFrameResult :
    receivedBytes ⟨2, lineCells (upward 6)⟩ = upward 6 ∧ receivedBytes ⟨2, lineCells (upward 3)⟩ = upward 3
      ∧ receivedPasses (upward 6) = true ∧ receivedPasses (upward 3) = true ∧ receivedPasses [] = false
      ∧ (byteAt (upward 6) 0).toNat % 16 = 6 ∧ (byteAt (upward 3) 0).toNat % 16 = 3
      ∧ receptionTicks ⟨2, lineCells (upward 6)⟩ = 320 ∧ 320 ≤ (320 : Nat) ∧ ¬320 ≤ (319 : Nat) := by
  decide +kernel

/-- A frame of 320 ticks is received when the link has been UP since it began, however long that is, and not when it began
while the link was QUALIFYING (R156). -/
theorem test_reception_began_up :
    let s (n : Nat) : State := { assigned with relay := { assigned.relay with link := .up, upFor := n } }
    (after (.satelliteFrameReceived ⟨2, lineCells (upward 6)⟩) (s 320)).partCount .satRxForwarded = 1
      ∧ (after (.satelliteFrameReceived ⟨2, lineCells (upward 6)⟩) (s (2 ^ 48 + 5))).partCount .satRxForwarded = 1
      ∧ after (.satelliteFrameReceived ⟨2, lineCells (upward 6)⟩) (s 319) = s 319 := by decide +kernel

theorem witness_SatelliteFrameResult_passes : FramePasses (upward 6) := by
  refine ⟨?_, ?_, ?_, ?_, ?_, ?_, ?_, ?_⟩ <;> decide +kernel

/-- A sampling that is due, in each detection mode, with line 2's last sample low and its accepted level high. -/
def sampling (d : Detect) (holds : Bool) : State := { assigned with lines := { assigned.lines with
  last := #v[none, none, some false, none], accepted := #v[none, none, some true, none], mask := 4, detect := d
  matchHolds := holds } }

theorem witness_LineSamplingResult :
    0 ≤ signed48 (sampling .event false).lc (sampling .event false).lines.nextSample
      ∧ (sampling .event false).du.gathered = false ∧ (sampling .event false).lines.detect = .event
      ∧ (sampling .event false).lines.last[(2 : Fin 4)] = some ((0 : BitVec 4).getLsbD 2)
      ∧ (sampling .event false).lines.accepted[(2 : Fin 4)] ≠ some ((0 : BitVec 4).getLsbD 2)
      ∧ (sampling .event false).lines.last[(2 : Fin 4)] ≠ some ((4 : BitVec 4).getLsbD 2)
      ∧ (sampling .pattern true).lines.matchHolds = true ∧ (sampling .pattern false).lines.matchHolds = false := by decide

theorem witness_DirectiveRoundTrip : [Item.openStream 3, Item.reset].length ≤ 255
    ∧ ∀ it ∈ [Item.openStream 3, Item.reset], itemLengthOk it = true := by decide

theorem witness_SatelliteLineRoundTrip : (1 : Nat) ≤ 2 ∧ (upward 6).length = field (upward 6) 14 2 + 20 ∧ (upward 6).length ≤ 1460 := by
  decide +kernel

/-- A part with a command waiting in front of one more, from which a step leads on, and in which the invariants hold. -/
def stepping : State := { State.reset with pending := [.selectAssertion, .writeSelect] }

theorem witness_StepKeeps :
    stepping.port.used ≤ 4 ∧ stepping.du.reportQueue.length ≤ 8 ∧ stepping.pool.wf = true ∧ stepping.slotsReserved ≤ 256
      ∧ stepping.requests.Nodup ∧ stepping.tlu.timeState = .unlocked
      ∧ (∀ i : Fin 8, (stepping.stream i).anchor = none ∧ (stepping.stream i).ring = [])
      ∧ (∀ i : Fin 8, (stepping.stream i).running = false ∧ stepping.pool.charged i ≤ (stepping.stream i).quota) := by
  decide +kernel

theorem witness_StepKeeps_steps : ∃ t, step stepping = .next t := ⟨_, rfl⟩

theorem witness_RelayCopiesBalance :
    stepping.partCount .relayCopies < 4294967295 ∧ stepping.pending.head? = some .selectAssertion
      ∧ stepping.partCount .relayCopies = 0 ∧ stepping.partCount .relaySent = 0 ∧ stepping.relay.tx = none := by
  decide +kernel

/-! ## The table's bits -/

/-- No row of the table gives bits, so no word spells a command (log 5). -/
theorem test_decodeTableWord : decodeTableWord 8 0xA5 = none := by decide
theorem test_withFetchWord : State.reset.withFetchWord 8 0xA5 = State.reset := by decide

end Sys2Proof.Tests
end

section
/-! PROOFS. The flush of a time fault (R60, R61): what it makes of each stream and what it leaves alone. -/

namespace Sys2Proof.Machine

/-! ## What a flush leaves alone -/

/-- What no flush of streams touches from `s` to `t`: everything outside the stream records, the pool, the request list and the
readers, but for the gathering of a code raised (R60, R61, R177). -/
structure FlushFrame (s t : State) : Prop where
  lc : t.lc = s.lc
  firstCycle : t.firstCycle = s.firstCycle
  tlu : t.tlu = s.tlu
  port : t.port = s.port
  recovery : t.recovery = s.recovery
  lanes : t.lanes = s.lanes
  relay : t.relay = s.relay
  du : t.du = { s.du with gathered := t.du.gathered }
  ident : t.ident = s.ident
  lines : t.lines = s.lines
  counters : t.counters = s.counters
  pending : t.pending = s.pending

theorem FlushFrame.refl (s : State) : FlushFrame s s :=
  ⟨rfl, rfl, rfl, rfl, rfl, rfl, rfl, rfl, rfl, rfl, rfl, rfl⟩

theorem FlushFrame.trans {s t u : State} (h : FlushFrame s t) (h' : FlushFrame t u) : FlushFrame s u where
  lc := h'.lc.trans h.lc
  firstCycle := h'.firstCycle.trans h.firstCycle
  tlu := h'.tlu.trans h.tlu
  port := h'.port.trans h.port
  recovery := h'.recovery.trans h.recovery
  lanes := h'.lanes.trans h.lanes
  relay := h'.relay.trans h.relay
  du := by rw [h'.du, h.du]
  ident := h'.ident.trans h.ident
  lines := h'.lines.trans h.lines
  counters := h'.counters.trans h.counters
  pending := h'.pending.trans h.pending

theorem FlushFrame.setStream (s : State) (i : Fin 8) (st : Stream) : FlushFrame s (s.setStream i st) :=
  ⟨rfl, rfl, rfl, rfl, rfl, rfl, rfl, rfl, rfl, rfl, rfl, rfl⟩

theorem FlushFrame.release (s : State) (ids : List Nat) : FlushFrame s (s.release ids) :=
  ⟨rfl, rfl, rfl, rfl, rfl, rfl, rfl, rfl, rfl, rfl, rfl, rfl⟩

theorem FlushFrame.dropRequest (s : State) (i : Fin 8) : FlushFrame s (s.dropRequest i) :=
  ⟨rfl, rfl, rfl, rfl, rfl, rfl, rfl, rfl, rfl, rfl, rfl, rfl⟩

theorem State.operandsEmptied_frame (i : Fin 8) (gone : List Seq) (s : State) :
    FlushFrame s (s.operandsEmptied i gone) := by
  rcases s.operandsEmptied_cases i gone with h | ⟨op, -, -, -, h⟩ <;> rw [h]
  · exact .refl s
  · exact .setStream s i _

theorem State.emptySlots_frame (i : Fin 8) (p : Slot → Bool) (s : State) : FlushFrame s (s.emptySlots i p) :=
  ((FlushFrame.setStream s i _).trans (.release _ _)).trans (State.operandsEmptied_frame i _ _)

theorem State.emptyHolder_frame (i : Fin 8) (s : State) : FlushFrame s (s.emptyHolder i) := by
  unfold State.emptyHolder
  split
  · exact .dropRequest s i
  · exact ((FlushFrame.setStream s i _).trans (.release _ _)).trans (.dropRequest _ i)

theorem State.freshReaders_frame (i : Fin 8) (s : State) : FlushFrame s (s.freshReaders i) :=
  ⟨rfl, rfl, rfl, rfl, rfl, rfl, rfl, rfl, rfl, rfl, rfl, rfl⟩

theorem State.raiseStream_frame (i : Fin 8) (c : StreamCode) (s : State) : FlushFrame s (s.raiseStream i c) := by
  unfold State.raiseStream
  split
  · exact .refl s
  · exact ⟨rfl, rfl, rfl, rfl, rfl, rfl, rfl, rfl, rfl, rfl, rfl, rfl⟩

theorem State.flushTo_frame (i : Fin 8) (dest : StreamState) (s : State) : FlushFrame s (s.flushTo i dest) :=
  (((s.emptySlots_frame i _).trans (State.emptyHolder_frame i _)).trans (State.freshReaders_frame i _)).trans
    (.setStream _ i _)

theorem State.timeFlush_frame (i : Fin 8) (s : State) : FlushFrame s (s.timeFlush i) := by
  unfold State.timeFlush
  split
  · exact ((s.flushTo_frame i .listening).trans (.setStream _ i _)).trans (State.raiseStream_frame i .flushed _)
  · exact .refl s

theorem State.flushAnchored_frame (s : State) : FlushFrame s s.flushAnchored := by
  have each (l : List (Fin 8)) : ∀ s : State, FlushFrame s (l.foldl (fun s i => s.timeFlush i) s) := by
    induction l with
    | nil => exact FlushFrame.refl
    | cons i l ih => exact fun s => (s.timeFlush_frame i).trans (ih (s.timeFlush i))
  exact each eight s

/-! ## The other streams -/

theorem State.operandsEmptied_stream_ne {i j : Fin 8} (h : j ≠ i) (gone : List Seq) (s : State) :
    (s.operandsEmptied i gone).stream j = s.stream j := by
  rcases s.operandsEmptied_cases i gone with e | ⟨op, -, -, -, e⟩ <;> rw [e]
  exact s.setStream_stream_ne i j _ h

theorem State.emptySlots_stream_ne {i j : Fin 8} (h : j ≠ i) (p : Slot → Bool) (s : State) :
    (s.emptySlots i p).stream j = s.stream j :=
  (State.operandsEmptied_stream_ne h _ _).trans (s.setStream_stream_ne i j _ h)

theorem State.emptyHolder_stream_ne {i j : Fin 8} (h : j ≠ i) (s : State) :
    (s.emptyHolder i).stream j = s.stream j := by
  unfold State.emptyHolder
  split
  · rfl
  · exact s.setStream_stream_ne i j _ h

theorem State.freshReaders_stream_ne {i j : Fin 8} (h : j ≠ i) (s : State) :
    (s.freshReaders i).stream j = s.stream j :=
  State.setStream_stream_ne _ i j _ h

theorem State.raiseStream_stream_ne {i j : Fin 8} (h : j ≠ i) (c : StreamCode) (s : State) :
    (s.raiseStream i c).stream j = s.stream j := by
  unfold State.raiseStream
  split
  · rfl
  · exact s.setStream_stream_ne i j _ h

theorem State.flushTo_stream_ne {i j : Fin 8} (h : j ≠ i) (dest : StreamState) (s : State) :
    (s.flushTo i dest).stream j = s.stream j :=
  calc (s.flushTo i dest).stream j
    _ = (((s.emptySlots i fun _ => true).emptyHolder i).freshReaders i).stream j := State.setStream_stream_ne _ i j _ h
    _ = ((s.emptySlots i fun _ => true).emptyHolder i).stream j := State.freshReaders_stream_ne h _
    _ = (s.emptySlots i fun _ => true).stream j := State.emptyHolder_stream_ne h _
    _ = s.stream j := s.emptySlots_stream_ne h _

theorem State.timeFlush_stream_ne {i j : Fin 8} (h : j ≠ i) (s : State) : (s.timeFlush i).stream j = s.stream j := by
  unfold State.timeFlush
  split
  · calc (((s.flushTo i .listening).bumpStream i .flushes).raiseStream i .flushed).stream j
      _ = ((s.flushTo i .listening).bumpStream i .flushes).stream j := State.raiseStream_stream_ne h _ _
      _ = (s.flushTo i .listening).stream j := State.setStream_stream_ne _ i j _ h
      _ = s.stream j := s.flushTo_stream_ne h _
  · rfl

/-! ## The stream that is flushed -/

/-- A ring of vacant slots stays one when emptied operands return a target to EMPTY (R102). -/
theorem State.operandsEmptied_keeps_vacant (i : Fin 8) (gone : List Seq) (s : State)
    (h : ∀ sl ∈ (s.stream i).ring, sl = Slot.vacant) :
    ∀ sl ∈ ((s.operandsEmptied i gone).stream i).ring, sl = Slot.vacant := by
  rcases s.operandsEmptied_cases i gone with e | ⟨op, -, -, -, e⟩ <;> rw [e]
  · exact h
  · rw [State.setStream_stream_self]
    exact fun sl hsl => (List.mem_or_eq_of_mem_set hsl).elim (h sl) id

/-- Emptying every slot leaves a ring of vacant slots (R88). -/
theorem State.emptySlots_all_vacant (i : Fin 8) (s : State) :
    ∀ sl ∈ ((s.emptySlots i fun _ => true).stream i).ring, sl = Slot.vacant := by
  refine State.operandsEmptied_keeps_vacant i _ _ fun sl hsl => ?_
  have hmap : sl ∈ (s.stream i).ring.map fun _ => Slot.vacant := by simpa [State.stream] using hsl
  obtain ⟨-, -, rfl⟩ := List.mem_map.mp hmap
  rfl

theorem State.emptyHolder_stream_self (i : Fin 8) (s : State) :
    (s.emptyHolder i).stream i = { s.stream i with holder := none } := by
  unfold State.emptyHolder
  split
  next h => exact h ▸ rfl
  next => exact s.setStream_stream_self i _

theorem State.freshReaders_stream_self (i : Fin 8) (s : State) :
    (s.freshReaders i).stream i = { s.stream i with virt := .fresh } :=
  State.setStream_stream_self _ i _

/-- Raising a stream code sets it and changes the stream's attention set alone (R174). -/
theorem State.raiseStream_stream_self (i : Fin 8) (c : StreamCode) (s : State) :
    ((s.raiseStream i c).stream i).codeSet c = true
      ∧ (s.raiseStream i c).stream i = { s.stream i with attention := ((s.raiseStream i c).stream i).attention } := by
  by_cases h : (s.stream i).codeSet c = true
  · simp [State.raiseStream, h]
  · have e : (s.raiseStream i c).stream i
        = { s.stream i with attention := (s.stream i).attention ||| (1#5 <<< c.bit) } := by
      rw [State.raiseStream, if_neg h]
      exact s.setStream_stream_self i _
    rw [e]
    refine ⟨?_, rfl⟩
    cases c <;> simp [Stream.codeSet, StreamCode.bit]

theorem State.flushTo_stream_self (i : Fin 8) (dest : StreamState) (s : State) :
    ((s.flushTo i dest).stream i).state = dest ∧ Flushed ((s.flushTo i dest).stream i) := by
  have hv := s.emptySlots_all_vacant i
  simp only [State.flushTo, State.setStream_stream_self, State.freshReaders_stream_self, State.emptyHolder_stream_self]
  exact ⟨trivial, rfl, rfl, rfl, rfl, rfl, rfl, rfl, rfl, rfl, hv⟩

/-- What the flush of a running stream by a time fault makes of its record: LISTENING, emptied, and FLUSHED set (R60, R61). -/
def TimeFlushed (st : Stream) : Prop := st.state = .listening ∧ Flushed st ∧ st.codeSet .flushed = true

theorem TimeFlushed.not_running {st : Stream} (h : TimeFlushed st) : st.running = false := by
  simp [Stream.running, h.1]

theorem State.timeFlush_of_running {i : Fin 8} {s : State} (h : (s.stream i).running = true) :
    TimeFlushed ((s.timeFlush i).stream i) := by
  obtain ⟨hstate, hflushed⟩ := s.flushTo_stream_self i .listening
  obtain ⟨hcode, hrest⟩ := ((s.flushTo i .listening).bumpStream i .flushes).raiseStream_stream_self i .flushed
  rw [State.timeFlush, if_pos h]
  refine ⟨?_, ?_, hcode⟩
  · rw [hrest]; simpa [State.bumpStream] using hstate
  · rw [hrest]; simpa [State.bumpStream, Flushed] using hflushed

theorem State.timeFlush_of_not_running {i : Fin 8} {s : State} (h : (s.stream i).running = false) :
    s.timeFlush i = s := by
  simp [State.timeFlush, h]

/-! ## Every anchored stream (R19) -/

theorem State.timeFlush_keeps {j : Fin 8} {s : State} (h : (s.stream j).running = false) (i : Fin 8) :
    (s.timeFlush i).stream j = s.stream j := by
  by_cases hij : j = i
  · rw [← hij, State.timeFlush_of_not_running h]
  · exact s.timeFlush_stream_ne hij

theorem State.foldl_timeFlush_keeps {j : Fin 8} (l : List (Fin 8)) {s : State} (h : (s.stream j).running = false) :
    (l.foldl (fun s i => s.timeFlush i) s).stream j = s.stream j := by
  induction l generalizing s with
  | nil => rfl
  | cons i l ih =>
    have hi := State.timeFlush_keeps h i
    exact (ih (hi ▸ h)).trans hi

theorem State.foldl_timeFlush_flushes {j : Fin 8} {l : List (Fin 8)} (hj : j ∈ l) {s : State}
    (h : (s.stream j).running = true) : TimeFlushed ((l.foldl (fun s i => s.timeFlush i) s).stream j) := by
  induction l generalizing s with
  | nil => cases hj
  | cons i l ih =>
    rw [List.foldl_cons]
    by_cases hij : j = i
    · subst hij
      have hf := State.timeFlush_of_running h
      rw [State.foldl_timeFlush_keeps l hf.not_running]
      exact hf
    · refine ih ((List.mem_cons.mp hj).resolve_left hij) ?_
      rw [s.timeFlush_stream_ne hij]
      exact h

theorem State.flushAnchored_of_running {j : Fin 8} {s : State} (h : (s.stream j).running = true) :
    TimeFlushed (s.flushAnchored.stream j) :=
  State.foldl_timeFlush_flushes (by fin_cases j <;> decide) h

theorem State.flushAnchored_of_not_running {j : Fin 8} {s : State} (h : (s.stream j).running = false) :
    s.flushAnchored.stream j = s.stream j :=
  State.foldl_timeFlush_keeps eight h

end Sys2Proof.Machine
end

section
/-! PROOFS. The end of an event (R173, R177, R178): what a notice, placed or dropped, leaves of the part. -/

namespace Sys2Proof.Machine

/-- What an offered notice leaves from `s` to `t`: everything outside the Directive Unit and the counters, every counter but
NOTICES_QUEUED and REPORT_DROP, and every part code that is set (R173, R174, R178). -/
structure NoticeFrame (s t : State) : Prop where
  outside : t = { s with du := t.du, counters := t.counters }
  partCount : ∀ c : PartCounter, c ≠ .noticesQueued → c ≠ .reportDrop → t.partCount c = s.partCount c
  keepsSet : ∀ c : PartCode, s.partSet c = true → t.partSet c = true

theorem NoticeFrame.refl (s : State) : NoticeFrame s s :=
  ⟨rfl, fun _ _ _ => rfl, fun _ h => h⟩

theorem NoticeFrame.trans {s t u : State} (h : NoticeFrame s t) (h' : NoticeFrame t u) : NoticeFrame s u where
  outside := by rw [h'.outside, h.outside]
  partCount c hn hr := (h'.partCount c hn hr).trans (h.partCount c hn hr)
  keepsSet c hc := h'.keepsSet c (h.keepsSet c hc)

section

variable {s t : State} (h : NoticeFrame s t)
include h

theorem NoticeFrame.lc : t.lc = s.lc := by rw [h.outside]
theorem NoticeFrame.tlu : t.tlu = s.tlu := by rw [h.outside]
theorem NoticeFrame.port : t.port = s.port := by rw [h.outside]
theorem NoticeFrame.streams : t.streams = s.streams := by rw [h.outside]
theorem NoticeFrame.lanes : t.lanes = s.lanes := by rw [h.outside]
theorem NoticeFrame.relay : t.relay = s.relay := by rw [h.outside]
theorem NoticeFrame.ident : t.ident = s.ident := by rw [h.outside]
theorem NoticeFrame.lines : t.lines = s.lines := by rw [h.outside]
theorem NoticeFrame.pending : t.pending = s.pending := by rw [h.outside]

end

theorem NoticeFrame.bump {c : PartCounter} (hc : c = .noticesQueued ∨ c = .reportDrop) (s : State) :
    NoticeFrame s (s.bump c) where
  outside := rfl
  partCount d hn hr := s.bump_partCount_ne c d (by rcases hc with rfl | rfl <;> assumption)
  keepsSet _ h := h

theorem NoticeFrame.setDu (s : State) (du : DirectiveUnit) (h : du.attention = s.du.attention) :
    NoticeFrame s { s with du := du } where
  outside := rfl
  partCount _ _ _ := rfl
  keepsSet c hc := by simpa [State.partSet, h] using hc

/-- A raising keeps every part code that is set, and touches the Directive Unit alone (R174, R177). -/
theorem State.raisePart_noticeFrame (c : PartCode) (s : State) : NoticeFrame s (s.raisePart c) where
  outside := by unfold State.raisePart; split <;> rfl
  partCount _ _ _ := by unfold State.raisePart; split <;> rfl
  keepsSet d hd := by
    by_cases h : d = c
    · exact h ▸ (s.raisePart_spec c).1
    · rw [(s.raisePart_spec c).2.1 d h, hd]

theorem State.offerReport_noticeFrame (f : List Byte) (s : State) : NoticeFrame s (s.offerReport f).2 := by
  unfold State.offerReport
  split
  · exact .setDu s _ rfl
  · exact (NoticeFrame.bump (.inr rfl) s).trans (State.raisePart_noticeFrame .reportDrop _)

theorem State.sendNotice_noticeFrame (payload : List Byte) (s : State) : NoticeFrame s (s.sendNotice payload) := by
  have hoffer (f : List Byte) :
      NoticeFrame s (({ s with du := { s.du with noticeCount := s.du.noticeCount + 1 } }).offerReport f).2 :=
    .trans (.setDu s { s.du with noticeCount := s.du.noticeCount + 1 } rfl) (State.offerReport_noticeFrame f _)
  unfold State.sendNotice
  dsimp only
  split
  · exact (hoffer _).trans (.bump (.inl rfl) _)
  · exact hoffer _

/-- The end of an event leaves what a notice leaves (R177). -/
theorem State.endEvent_noticeFrame (s : State) : NoticeFrame s s.endEvent := by
  unfold State.endEvent
  split
  · exact .trans (.setDu s { s.du with gathered := false } rfl) (State.sendNotice_noticeFrame _ _)
  · exact .refl s

end Sys2Proof.Machine
end

section
/-! PROOFS. The event of a time fault (R19, R61): every anchored stream flushed, a part code raised, and the event's end. -/

namespace Sys2Proof.Machine

/-- The rest of an event that flushes every anchored stream and raises a part code (R12, R19, R177). -/
def State.faultEvent (c : PartCode) (s : State) : State := (s.flushAnchored.raisePart c).endEvent

/-- After its flush, a time fault changes no more of the part than a notice does. -/
theorem State.faultEvent_noticeFrame (c : PartCode) (s : State) : NoticeFrame s.flushAnchored (s.faultEvent c) :=
  (State.raisePart_noticeFrame c _).trans (State.endEvent_noticeFrame _)

theorem State.faultEvent_partSet (c : PartCode) (s : State) : (s.faultEvent c).partSet c = true :=
  (State.endEvent_noticeFrame _).keepsSet c (State.raisePart_spec c _).1

theorem State.faultEvent_partCount (c : PartCode) (s : State) {d : PartCounter} (hn : d ≠ .noticesQueued)
    (hr : d ≠ .reportDrop) : (s.faultEvent c).partCount d = s.partCount d :=
  calc (s.faultEvent c).partCount d
    _ = s.flushAnchored.partCount d := (s.faultEvent_noticeFrame c).partCount d hn hr
    _ = s.partCount d := by rw [State.partCount, s.flushAnchored_frame.counters, State.partCount]

theorem State.faultEvent_stream (c : PartCode) (s : State) (i : Fin 8) :
    (s.faultEvent c).stream i = s.flushAnchored.stream i :=
  State.stream_congr (s.faultEvent_noticeFrame c).streams i

theorem State.faultEvent_of_running (c : PartCode) {s : State} {i : Fin 8} (h : (s.stream i).running = true) :
    TimeFlushed ((s.faultEvent c).stream i) := by
  rw [State.faultEvent_stream]
  exact State.flushAnchored_of_running h

theorem State.faultEvent_of_not_running (c : PartCode) {s : State} {i : Fin 8} (h : (s.stream i).running = false) :
    (s.faultEvent c).stream i = s.stream i := by
  rw [State.faultEvent_stream]
  exact State.flushAnchored_of_not_running h

@[simp] theorem State.faultEvent_tlu (c : PartCode) (s : State) : (s.faultEvent c).tlu = s.tlu :=
  (s.faultEvent_noticeFrame c).tlu.trans s.flushAnchored_frame.tlu

@[simp] theorem State.faultEvent_port (c : PartCode) (s : State) : (s.faultEvent c).port = s.port :=
  (s.faultEvent_noticeFrame c).port.trans s.flushAnchored_frame.port

@[simp] theorem State.faultEvent_relay (c : PartCode) (s : State) : (s.faultEvent c).relay = s.relay :=
  (s.faultEvent_noticeFrame c).relay.trans s.flushAnchored_frame.relay

@[simp] theorem State.faultEvent_lc (c : PartCode) (s : State) : (s.faultEvent c).lc = s.lc :=
  (s.faultEvent_noticeFrame c).lc.trans s.flushAnchored_frame.lc

@[simp] theorem State.faultEvent_ident (c : PartCode) (s : State) : (s.faultEvent c).ident = s.ident :=
  (s.faultEvent_noticeFrame c).ident.trans s.flushAnchored_frame.ident

@[simp] theorem State.faultEvent_lanes (c : PartCode) (s : State) : (s.faultEvent c).lanes = s.lanes :=
  (s.faultEvent_noticeFrame c).lanes.trans s.flushAnchored_frame.lanes

@[simp] theorem State.faultEvent_lines (c : PartCode) (s : State) : (s.faultEvent c).lines = s.lines :=
  (s.faultEvent_noticeFrame c).lines.trans s.flushAnchored_frame.lines

@[simp] theorem State.faultEvent_pending (c : PartCode) (s : State) : (s.faultEvent c).pending = s.pending :=
  (s.faultEvent_noticeFrame c).pending.trans s.flushAnchored_frame.pending

end Sys2Proof.Machine
end

section
/-! PROOFS. The Time Lock Unit: a used beat, the eighth value of a window, and the close that steps (R6, R8, R10, R12). -/

namespace Sys2Proof.Machine

/-! ## The least offset of a window (R10) -/

theorem foldl_least_spec (d : Time) (ds : List Time) :
    (ds.foldl (fun m x => if x.toInt < m.toInt then x else m) d) ∈ d :: ds
      ∧ ∀ x ∈ d :: ds, (ds.foldl (fun m x => if x.toInt < m.toInt then x else m) d).toInt ≤ x.toInt := by
  induction ds generalizing d with
  | nil => simp
  | cons e ds ih =>
    rw [List.foldl_cons]
    split
    next h =>
      obtain ⟨hmem, hle⟩ := ih e
      refine ⟨List.mem_cons_of_mem _ hmem, List.forall_mem_cons.mpr ⟨?_, hle⟩⟩
      exact (hle e List.mem_cons_self).trans h.le
    next h =>
      obtain ⟨hmem, hle⟩ := ih d
      obtain ⟨hd, hds⟩ := List.forall_mem_cons.mp hle
      have he := hd.trans (not_lt.mp h)
      exact ⟨List.mem_cons.mpr ((List.mem_cons.mp hmem).imp_right (List.mem_cons_of_mem e)),
        List.forall_mem_cons.mpr ⟨hd, List.forall_mem_cons.mpr ⟨he, hds⟩⟩⟩

theorem leastOffset_spec {ds : List Time} (h : ds ≠ []) :
    leastOffset ds ∈ ds ∧ ∀ x ∈ ds, (leastOffset ds).toInt ≤ x.toInt := by
  cases ds with
  | nil => exact absurd rfl h
  | cons d ds => exact foldl_least_spec d ds

/-! ## Taking a beat -/

/-- TAKING_A_BEAT with a BEAT at the head for the Time Lock Unit: the screening of R6 with the buffer FREE, then the event's
end. -/
theorem exec_takingABeat {s : State} {f : InFrame} {rest : List InFrame} (hf : s.port.intake = f :: rest)
    (hc : s.port.handed = [.timeLock]) : exec .takingABeat s = .next ((headTaken s).takeBeat f).endEvent :=
  congrArg (fun t : State => Host.Outcome.next t.endEvent) (s.take_only _ State.takeBeat f rest hf hc)

theorem State.takeBeat_of_used {s : State} {f : InFrame} (hlen : framePayloadLength f.bytes = 0)
    (hsrc : s.tlu.source ≠ 0) (hfrom : frameSource f.bytes = s.tlu.source) : s.takeBeat f = s.useBeat f := by
  have hown : ¬((s.tlu.source = 0 || frameSource f.bytes != s.tlu.source) = true) := by
    rw [hfrom, bne_self_eq_false, Bool.or_false, decide_eq_true_eq]
    exact hsrc
  rw [State.takeBeat, if_neg (by simp [hlen]), if_neg hown]

/-- The Time Lock Unit with a used beat recorded (R6). -/
def Tlu.recorded (f : InFrame) (t : Tlu) : Tlu := { t with lastBeat := some (f.arrival, frameSeq f.bytes) }

/-- A used beat of the unit's own epoch is counted, recorded, and its raw offset goes to the window (R6, R8). -/
theorem State.useBeat_of_epoch {s : State} {f : InFrame} (h : s.tlu.epoch = some (frameEpoch f.bytes)) :
    s.useBeat f = ((s.bump .beatsUsed).setTlu (s.tlu.recorded f)).windowRule
      (s.tlu.rawOffset (frameStamp f.bytes) f.arrival) f.arrival := by
  simp [State.useBeat, h, Tlu.rawOffset, Tlu.recorded]

/-- The eighth value of a window closes it (R10). -/
theorem State.windowRule_of_eighth (s : State)
    (h : s.tlu.timeState = .acquiring ∨ s.tlu.timeState = .settling ∨ s.tlu.timeState = .locked)
    (hw : s.tlu.window.length = 7) (d arrival : Time) :
    s.windowRule d arrival = (s.setTlu (s.tlu.append d arrival)).closeWindow arrival := by
  have hlen : 8 ≤ (s.tlu.append d arrival).window.length := by simp [Tlu.append, hw]
  rcases h with h | h | h <;> simp [State.windowRule, h, hlen]

/-- The part once a close in SETTLING or LOCKED has counted and stepped the mapping to `m` (R10, R12), before its flush. -/
def State.stepped (m close : Time) (s : State) : State :=
  ((s.bump .windowCloses).setTlu (s.tlu.emptyWindow.step m close)).bump .steps

/-- A close in SETTLING or LOCKED with an error beyond the limit, after a strike, steps the mapping (R12). -/
theorem State.closeWindow_of_second_strike (s : State) (close : Time)
    (h : s.tlu.timeState = .settling ∨ s.tlu.timeState = .locked) (hs : s.tlu.strikes ≠ 0)
    (he : 24576 < (s.tlu.error (leastOffset s.tlu.window) close).toInt.natAbs) :
    s.closeWindow close
      = (s.stepped (leastOffset s.tlu.window) close).flushAnchored.raisePart .timeStepped := by
  have he' : ¬(s.tlu.emptyWindow.error (leastOffset s.tlu.window) close).toInt.natAbs ≤ 24576 := not_le.mpr he
  have ht : s.tlu.emptyWindow.timeState = s.tlu.timeState := rfl
  have hs' : s.tlu.emptyWindow.strikes ≠ 0 := hs
  rcases h with h | h <;> simp only [State.closeWindow, ht, h, if_neg he', if_neg hs'] <;> rfl

/-- The Time Lock Unit as the step to `m` at a beat leaves it: R kept, no window, no strike, SETTLING (R10, R12, R21). -/
theorem Tlu.step_of_beat (t : Tlu) (f : InFrame) (d m : Time) :
    ((t.recorded f).append d f.arrival).emptyWindow.step m f.arrival = { t with
      window := [], windowNewest := none, lastBeat := some (f.arrival, frameSeq f.bytes)
      oc := m, lcc := f.arrival, mPrev := some m, strikes := 0, lockCount := 0, timeState := .settling
      lastError := t.error m f.arrival, regenEpoch := t.regenEpoch + 1 } := rfl

/-- The state in which a beat's window closes: the beat counted and recorded, its offset the eighth value (R6, R8). -/
def State.withEighth (f : InFrame) (d : Time) (s : State) : State :=
  (s.bump .beatsUsed).setTlu ((s.tlu.recorded f).append d f.arrival)

theorem State.withEighth_stepped_steps (f : InFrame) (d m close : Time) (s : State) :
    ((s.withEighth f d).stepped m close).partCount .steps = satInc (s.partCount .steps) :=
  calc ((s.withEighth f d).stepped m close).partCount .steps
    _ = satInc (((s.withEighth f d).bump .windowCloses).partCount .steps) := State.bump_partCount_self _ .steps
    _ = satInc ((s.bump .beatsUsed).partCount .steps) :=
      congrArg satInc ((s.withEighth f d).bump_partCount_ne .windowCloses .steps (by decide))
    _ = satInc (s.partCount .steps) := by rw [s.bump_partCount_ne .beatsUsed .steps (by decide)]

/-- A used beat whose close steps (R6, R8, R10, R12). -/
theorem State.takeBeat_of_second_strike {s : State} {f : InFrame} (hlen : framePayloadLength f.bytes = 0)
    (hsrc : s.tlu.source ≠ 0) (hfrom : frameSource f.bytes = s.tlu.source)
    (hepoch : s.tlu.epoch = some (frameEpoch f.bytes))
    (hstate : s.tlu.timeState = .settling ∨ s.tlu.timeState = .locked) (hwindow : s.tlu.window.length = 7)
    (hstrikes : s.tlu.strikes ≠ 0) {d m : Time} (hd : s.tlu.rawOffset (frameStamp f.bytes) f.arrival = d)
    (hm : leastOffset (s.tlu.window ++ [d]) = m) (he : 24576 < (s.tlu.error m f.arrival).toInt.natAbs) :
    s.takeBeat f = ((s.withEighth f d).stepped m f.arrival).flushAnchored.raisePart .timeStepped := by
  subst hm hd
  rw [State.takeBeat_of_used hlen hsrc hfrom, State.useBeat_of_epoch hepoch,
    State.windowRule_of_eighth ((s.bump .beatsUsed).setTlu (s.tlu.recorded f)) (.inr hstate) hwindow]
  exact State.closeWindow_of_second_strike (s.withEighth f _) f.arrival hstate hstrikes he

/-! ## The obligation -/

/-- Settles O12: the least of the eight offsets is the measurement; past the limit the close is the step, and the flush, the
raising and the event's end after it leave all else as it was. -/
theorem secondStrikeSteps : Obligations.SecondStrikeSteps := by
  intro s f rest hf hc hlen hsrc hfrom hepoch hstate hwindow hstrikes d pred
  obtain ⟨hmem, hleast⟩ := leastOffset_spec (ds := s.tlu.window ++ [d]) (by simp)
  generalize hm : leastOffset (s.tlu.window ++ [d]) = m at hmem hleast
  refine ⟨m, hmem, hleast, fun he => ?_⟩
  have hexec : exec .takingABeat s
      = .next ((((headTaken s).withEighth f d).stepped m f.arrival).faultEvent .timeStepped) := by
    rw [exec_takingABeat hf hc,
      State.takeBeat_of_second_strike (s := headTaken s) hlen hsrc hfrom hepoch hstate hwindow hstrikes rfl hm he]
    rfl
  refine ⟨_, hexec, ?_, State.faultEvent_partSet _ _, ?_, fun i hi => State.faultEvent_of_running _ hi,
    fun i hi => State.faultEvent_of_not_running _ hi, ?_⟩
  · rw [State.faultEvent_tlu]
    exact s.tlu.step_of_beat f d m
  · rw [State.faultEvent_partCount _ _ (by decide) (by decide)]
    exact State.withEighth_stepped_steps f d m f.arrival (headTaken s)
  · simp only [State.faultEvent_port, State.faultEvent_relay, State.faultEvent_lc, State.faultEvent_ident,
      State.faultEvent_lanes, State.faultEvent_lines, State.faultEvent_pending]
    exact ⟨rfl, rfl, rfl, rfl, rfl, rfl, rfl⟩

end Sys2Proof.Machine
end

section
/-! PROOFS. The end of a write select: the tests of R29 on the bytes shifted in, and what follows each verdict. -/

namespace Sys2Proof.Machine

/-! ## The header test (R30) -/

theorem frameKind_eq_none_iff {bs : List Byte} : frameKind bs = none ↔ ¬(1 ≤ kindCode bs ∧ kindCode bs ≤ 6) := by
  unfold frameKind
  split <;> simp_all
  next => omega

theorem frameKind_eq_audio_iff {bs : List Byte} : frameKind bs = some .audio ↔ kindCode bs = 1 := by
  unfold frameKind
  split <;> simp_all

theorem headerPasses_iff {bs : List Byte} :
    headerPasses bs = true ↔ (1 ≤ kindCode bs ∧ kindCode bs ≤ 6) ∧ frameVersion bs = 1
      ∧ (kindCode bs = 1 → frameContinuity bs ≤ 2) := by
  unfold headerPasses
  split
  next h => simp [frameKind_eq_none_iff.mp h]
  next k h =>
    have hkind : 1 ≤ kindCode bs ∧ kindCode bs ≤ 6 := by
      by_contra hn
      simp [frameKind_eq_none_iff.mpr hn] at h
    have haudio : k = .audio ↔ kindCode bs = 1 := by rw [← frameKind_eq_audio_iff, h, Option.some_inj]
    simp [hkind, ← haudio, imp_iff_not_or]

/-- How a header fails, in the words of R30. -/
theorem not_headerPasses_iff {bs : List Byte} :
    ¬headerPasses bs = true ↔ ¬(1 ≤ kindCode bs ∧ kindCode bs ≤ 6) ∨ frameVersion bs ≠ 1
      ∨ (kindCode bs = 1 ∧ ¬frameContinuity bs ≤ 2) := by
  rw [headerPasses_iff, not_and_or, not_and_or (a := frameVersion bs = 1), Classical.not_imp]

/-! ## The four tests in order (R29) -/

theorem frameFault_of_size {bytes : List Byte} {ragged : Bool}
    (h : ragged = true ∨ bytes.length < 20 ∨ 1460 < bytes.length) :
    frameFault (Filling.of bytes) ragged = some .length := by
  have hmin : min bytes.length 65535 < 20 ↔ bytes.length < 20 := by omega
  have hmax : 1460 < min bytes.length 65535 ↔ 1460 < bytes.length := by omega
  simp [frameFault, Filling.of, Config.receivedMax, Config.minFrame, Config.maxFrame, hmin, hmax, or_assoc, h]

/-- On a select that passes the size test, R29's further tests read the bytes themselves. -/
theorem frameFault_of_sized {bytes : List Byte} {ragged : Bool}
    (h : ¬(ragged = true ∨ bytes.length < 20 ∨ 1460 < bytes.length)) :
    frameFault (Filling.of bytes) ragged =
      if bytes.drop (bytes.length - 4) ≠ crcTrailer (bytes.take (bytes.length - 4)) then some .check
      else if framePayloadLength bytes ≠ bytes.length - 20 then some .length
      else if headerPasses bytes = true then none
      else some .badHeader := by
  obtain ⟨hr, hmin, hmax⟩ : ragged ≠ true ∧ 20 ≤ bytes.length ∧ bytes.length ≤ 1460 := by
    simpa only [not_or, not_lt] using h
  simp [Filling.of_frame bytes hmax, frameFault, Config.minFrame, Config.maxFrame, hr, not_lt.mpr hmin, not_lt.mpr hmax,
    eq_comm (a := bytes.drop (bytes.length - 4))]

/-! ## What follows the tests -/

theorem exec_writeSelectEnd (bytes : List Byte) (ragged : Bool) (s : State) :
    exec (.writeSelectEnd bytes ragged) s = .next (s.endWrite bytes ragged) := rfl

theorem exec_writeSelectEnd_of_fault {s : State} {a : Time} {bytes : List Byte} {ragged : Bool} {f : FrameFault}
    (h : s.port.select = .write a) (hf : frameFault (Filling.of bytes) ragged = some f) :
    exec (.writeSelectEnd bytes ragged) s = .next (((s.setSelect .idle).bump .framesIn).bump f.counter) := by
  simp only [exec_writeSelectEnd, State.endWrite, h, hf]

theorem exec_writeSelectEnd_of_pass {s : State} {a : Time} {bytes : List Byte} {ragged : Bool}
    (h : s.port.select = .write a) (hlen : bytes.length ≤ 1460) (hf : frameFault (Filling.of bytes) ragged = none) :
    exec (.writeSelectEnd bytes ragged) s = .next (
      (((s.setSelect .idle).bump .framesIn).setPort
        ⟨.idle, s.port.intake ++ [⟨bytes, a⟩], s.port.handed⟩).bump .framesQueued) := by
  simp only [exec_writeSelectEnd, State.endWrite, h, hf]
  rw [Filling.of_frame bytes hlen]
  rfl

/-! ## The obligation -/

/-- Settles O6: one case for each test of R29 in its order, and the frame that passes them all. -/
theorem writeSelectEndResult : Obligations.WriteSelectEndResult := by
  intro s a bytes ragged h s1 kind
  split_ifs with hsize hcheck hlength hheader
  · exact exec_writeSelectEnd_of_fault h (frameFault_of_size hsize)
  · exact exec_writeSelectEnd_of_fault h ((frameFault_of_sized hsize).trans (if_pos hcheck))
  · exact exec_writeSelectEnd_of_fault h
      ((frameFault_of_sized hsize).trans ((if_neg hcheck).trans (if_pos hlength)))
  all_goals
    have hfault : frameFault (Filling.of bytes) ragged = if headerPasses bytes = true then none else some .badHeader :=
      (frameFault_of_sized hsize).trans ((if_neg hcheck).trans (if_neg hlength))
  · exact exec_writeSelectEnd_of_fault h (hfault.trans (if_neg (not_headerPasses_iff.mpr hheader)))
  · have hpass : headerPasses bytes = true := not_not.mp (mt not_headerPasses_iff.mp hheader)
    have hmax : bytes.length ≤ 1460 := not_lt.mp fun hlt => hsize (.inr (.inr hlt))
    exact exec_writeSelectEnd_of_pass h hmax (hfault.trans (if_pos hpass))

end Sys2Proof.Machine
end

section
/-! PROOFS. The rows of directive items: how a row ends whose item its block refuses or applies (R161, R162). -/

namespace Sys2Proof.Machine

theorem exec_itemRow (h : DirHeader) (it : Item) (s : State) : exec (itemRow h it) s = .next (s.itemEvent h it) := by
  cases it <;> rfl

/-! ## Items that their block alone judges

Every item but ASSIGN_NODE, QUERY and RESET: those the Directive Unit handles itself. -/

section

variable {h : DirHeader} {it : Item} {s : State} (hnode : s.ident.node ≠ 0) (hblock : takenUnassigned it = false)
  (hreset : it ≠ .reset)
include hblock

theorem readTyped_of_block : readTyped it = .item it := by
  cases it
  case assignNode | query => cases hblock
  all_goals rfl

include hnode hreset

/-- At an assigned node such an item ends as its block answers (R162, R165). -/
theorem takeItem_of_block (wanted : Bool) (w : Work) :
    takeItem wanted it w s = match applyItem it s with
      | .error r => .refused r s
      | .ok t => .applied w t := by
  have hassigned : ¬(s.ident.node = 0 && !takenUnassigned it) = true := by simpa using fun hn => absurd hn hnode
  cases it
  case assignNode | query => cases hblock
  case reset => exact absurd rfl hreset
  all_goals exact if_neg hassigned

/-- The row of an item that its block refuses, in the state with the directive counted as taken (R162). -/
theorem exec_itemRow_of_error {r : ResultCode} (ha : applyItem it (s.bump .directivesTaken) = .error r) :
    exec (itemRow h it) s = .next (itemRefused h r s) := by
  have ht := takeItem_of_block (s := s.bump .directivesTaken) hnode hblock hreset h.replyWanted .start
  rw [ha] at ht
  rw [exec_itemRow, State.itemEvent, readTyped_of_block hblock, State.runDirective, runItems, ht]
  rfl

/-- The row of an item that its block applies, in the state with the directive counted as taken (R162). -/
theorem exec_itemRow_of_ok {t : State}
    (ha : applyItem it (s.bump .directivesTaken) = .ok (t.bump .directivesTaken)) :
    exec (itemRow h it) s = .next (itemDone h t) := by
  have ht := takeItem_of_block (s := s.bump .directivesTaken) hnode hblock hreset h.replyWanted .start
  rw [ha] at ht
  rw [exec_itemRow, State.itemEvent, readTyped_of_block hblock, State.runDirective, runItems, ht]
  rfl

end

/-! ## Operands and the counted directive -/

@[simp] theorem State.bump_stream (c : PartCounter) (s : State) (i : Fin 8) : (s.bump c).stream i = s.stream i := rfl

theorem State.bump_setStream (c : PartCounter) (s : State) (i : Fin 8) (st : Stream) :
    (s.bump c).setStream i st = (s.setStream i st).bump c := rfl

theorem index8_eq_none {b : Byte} (h : 8 ≤ b.toNat) : index8 b = none :=
  dif_neg (not_lt.mpr h)

theorem index8_eq_some {b : Byte} {i : Fin 8} (h : b.toNat = i.val) : index8 b = some i := by
  simp [index8, h]

theorem clampNat_eq_max_min {x lo hi : Nat} (h : lo ≤ hi) : clampNat x lo hi = max lo (min hi x) := by
  unfold clampNat
  split_ifs <;> omega

end Sys2Proof.Machine
end

section
/-! PROOFS. LOAD_STREAM (R44, R45): the tests in their order, and the record that is loaded. -/

namespace Sys2Proof.Machine

/-! ## The tests of R44 -/

theorem rateAllowed_iff {hz : Nat} : rateAllowed hz = true ↔ hz ∈ [32000, 44100, 48000, 88200, 96000] := by
  simp [rateAllowed, or_assoc]

theorem loadCells_eq (p : LoadParams) : loadCells p = (p.n.toNat * p.channels.toNat + 127) / 128 := by
  simp [loadCells, ceilDiv, Config.cellWords]

/-- Test 3 of R44 in the words of R43. -/
theorem loadInRange_iff {p : LoadParams} :
    loadInRange p = true ↔ p.key ≠ 0 ∧ p.rate.toNat ∈ [32000, 44100, 48000, 88200, 96000]
      ∧ 1 ≤ p.channels.toNat ∧ p.channels.toNat ≤ 8
      ∧ 16 ≤ p.n.toNat ∧ p.n.toNat ≤ 480 ∧ p.n.toNat * p.channels.toNat ≤ 480
      ∧ 4 ≤ p.depth.toNat ∧ p.depth.toNat ≤ 64
      ∧ 4 ≤ p.quota.toNat ∧ p.quota.toNat ≤ 1024 ∧ 2 * ((p.n.toNat * p.channels.toNat + 127) / 128) ≤ p.quota.toNat
      ∧ p.g.toNat ≠ 1 ∧ p.g.toNat ≤ 8 ∧ p.g.toNat ≤ p.depth.toNat
      ∧ (p.flags.getLsbD 0 = true ∨ p.flags.getLsbD 1 = true) := by
  have hg : p.g ≠ 1 ↔ p.g.toNat ≠ 1 := not_congr BitVec.toNat_inj.symm
  simp only [loadInRange, Bool.and_eq_true, Bool.or_eq_true, bne_iff_ne, decide_eq_true_eq, rateAllowed_iff,
    loadCells_eq, loadLocal, loadRelay, maskBit, hg, and_assoc]

theorem State.keyInUse_iff {s : State} {i : Fin 8} {key : BitVec 16} :
    s.keyInUse i key = true ↔ ∃ j : Fin 8, j ≠ i ∧ (s.stream j).state ≠ .idle ∧ (s.stream j).key = key := by
  have hall : ∀ j : Fin 8, j ∈ eight := by decide
  simp [State.keyInUse, hall, and_assoc]

/-- The tests of R44 after the index, in their order. -/
theorem State.loadRefusal_eq (s : State) (i : Fin 8) (p : LoadParams) :
    s.loadRefusal i p =
      if (s.stream i).state ≠ .idle ∧ (s.stream i).state ≠ .loaded then some .wrongState
      else if ¬loadInRange p = true then some .badValue
      else if s.keyInUse i p.key = true then some .keyInUse
      else if 256 - s.slotsReserved + (if (s.stream i).state = .idle then 0 else (s.stream i).depth) < p.depth.toNat then
        some .noSlots
      else if (s.stream i).state = .loaded ∧ p.quota.toNat < s.pool.charged i then some .wrongState
      else none := by
  have hslots : s.slotsFree + (s.stream i).reserved
      = 256 - s.slotsReserved + (if (s.stream i).state = .idle then 0 else (s.stream i).depth) := rfl
  simp only [State.loadRefusal, hslots, Bool.and_eq_true, bne_iff_ne, beq_iff_eq, decide_eq_true_eq,
    Bool.not_eq_true', Bool.not_eq_true]

/-! ## The row -/

theorem exec_loadStream_of_badIndex {h : DirHeader} {p : LoadParams} {s : State} (hnode : s.ident.node ≠ 0)
    (hindex : 8 ≤ p.index.toNat) : exec (.loadStream h p) s = .next (itemRefused h .badIndex s) :=
  exec_itemRow_of_error (it := .loadStream p) hnode rfl nofun (by
    simp [applyItem, applyLoadStream, index8_eq_none hindex])

/-- Counting the directive bears on no test of R44, so the row ends as the tests on the state before it say. -/
theorem exec_loadStream {h : DirHeader} {p : LoadParams} {s : State} {i : Fin 8} (hnode : s.ident.node ≠ 0)
    (hindex : p.index.toNat = i.val) :
    exec (.loadStream h p) s = .next ((s.loadRefusal i p).elim
      (itemDone h (s.setStream i ((s.stream i).load p))) (fun r => itemRefused h r s)) := by
  have hcounted : (s.bump .directivesTaken).loadRefusal i p = s.loadRefusal i p := rfl
  cases hr : s.loadRefusal i p with
  | none =>
    refine exec_itemRow_of_ok (it := .loadStream p) hnode rfl nofun ?_
    simp only [applyItem, applyLoadStream, index8_eq_some hindex, hcounted, hr, State.bump_stream,
      State.bump_setStream]
  | some r =>
    refine exec_itemRow_of_error (it := .loadStream p) hnode rfl nofun ?_
    simp only [applyItem, applyLoadStream, index8_eq_some hindex, hcounted, hr]

/-- The record of R45 with its clamps as minimum and maximum. -/
theorem Stream.load_eq (old : Stream) (p : LoadParams) :
    old.load p = { Stream.idle with
      state := .loaded, key := p.key, fs := p.rate.toNat, channels := p.channels.toNat, n := p.n.toNat
      depth := p.depth.toNat, quota := p.quota.toNat, g := p.g.toNat
      localPlay := p.flags.getLsbD 0, relay := p.flags.getLsbD 1
      prio := min 7 p.prio.toNat, tol := min 4095 p.tol.toNat
      horizon := max 10 (min 2000 p.horizon.toNat) * 24576
      ring := List.replicate p.depth.toNat Slot.vacant
      counters := if old.state = .idle then Vector.replicate 39 0 else old.counters
      attention := if old.state = .idle then 0 else old.attention } := by
  have hclamp : clampNat p.prio.toNat 0 7 = min 7 p.prio.toNat ∧ clampNat p.tol.toNat 0 4095 = min 4095 p.tol.toNat
      ∧ clampNat p.horizon.toNat 10 2000 = max 10 (min 2000 p.horizon.toNat) := by
    simp [clampNat_eq_max_min]
  obtain ⟨hprio, htol, hhorizon⟩ := hclamp
  rw [Stream.load, hprio, htol, hhorizon]
  rfl

/-! ## The obligation -/

/-- Settles O31: each test of R44 after the index stands for one outcome of the chain, and the load that passes them
all for the last. -/
theorem loadStreamResult : Obligations.LoadStreamResult := by
  intro h p s hnode
  refine ⟨exec_loadStream_of_badIndex hnode, fun i hindex => ?_⟩
  rw [exec_loadStream hnode hindex, Stream.load_eq, State.loadRefusal_eq]
  dsimp only
  simp only [← loadInRange_iff, ← State.keyInUse_iff]
  split_ifs <;> rfl

end Sys2Proof.Machine
end

section
/-! PROOFS. OPEN_STREAM and CLOSE_STREAM (R46, R47), and all that the flush of R60 does to the part. -/

namespace Sys2Proof.Machine

/-! ## The flush in one equation (R60) -/

theorem State.setStream_self (s : State) (i : Fin 8) : s.setStream i (s.stream i) = s := by
  simp [State.setStream, State.stream]

/-- In a ring of vacant slots a target that returns to EMPTY changes nothing (R102). -/
theorem Stream.putSlot_vacant {st : Stream} (h : ∀ sl ∈ st.ring, sl = Slot.vacant) (p : Nat) :
    st.putSlot p Slot.vacant = st := by
  have hring : st.ring.set p Slot.vacant = st.ring := by
    rw [List.eq_replicate_of_mem h, List.set_replicate_self]
  rw [Stream.putSlot, hring]

theorem State.operandsEmptied_of_vacant {i : Fin 8} {s : State} (h : ∀ sl ∈ (s.stream i).ring, sl = Slot.vacant)
    (gone : List Seq) : s.operandsEmptied i gone = s := by
  rcases s.operandsEmptied_cases i gone with e | ⟨op, -, -, -, e⟩
  · exact e
  · rw [e, Stream.putSlot_vacant h, State.setStream_self]

/-- The cells of a stream's slots that are not EMPTY, in the order of the ring. -/
def Stream.slotCells (st : Stream) : List Nat :=
  (st.ring.filter (fun sl => sl.state != .empty)).flatMap (fun sl => sl.cells)

/-- The cells of a stream's parity holder. -/
def Stream.holderCells (st : Stream) : List Nat := (st.holder.map (fun x => x.cells)).getD []

/-- A record with every slot EMPTY. -/
def Stream.vacated (st : Stream) : Stream := { st with ring := st.ring.map (fun _ => Slot.vacant) }

/-- A record as the flush of R60 leaves it, in state `dest`. -/
def Stream.flushed (dest : StreamState) (st : Stream) : Stream :=
  { st with
    state := dest, ring := st.ring.map (fun _ => Slot.vacant), anchor := none
    pendingAnchor := none, breakSeq := none, secondBreak := none, endSeq := none, mismatchRun := 0
    missedRun := 0, holder := none, virt := .fresh }

theorem Stream.vacated_holderCells (st : Stream) : st.vacated.holderCells = st.holderCells := rfl

theorem State.emptySlots_all (i : Fin 8) (s : State) :
    s.emptySlots i (fun _ => true) = (s.setStream i (s.stream i).vacated).release (s.stream i).slotCells := by
  refine State.operandsEmptied_of_vacant (fun sl hsl => ?_) _
  have hmem : sl ∈ (s.stream i).vacated.ring := by simpa [State.stream, Stream.vacated] using hsl
  obtain ⟨-, -, rfl⟩ := List.mem_map.mp hmem
  rfl

theorem State.emptyHolder_eq (i : Fin 8) (s : State) :
    s.emptyHolder i
      = ((s.setStream i { s.stream i with holder := none }).release (s.stream i).holderCells).dropRequest i := by
  unfold State.emptyHolder
  split
  next h =>
    have hkept : { s.stream i with holder := none } = s.stream i := by rw [← h]
    rw [hkept, State.setStream_self, Stream.holderCells, h]
    rfl
  next h => rw [Stream.holderCells, h]; rfl

/-- Everything the flush of R60 changes: the record, the readers of the stream, its request and the cells it held. -/
theorem State.flushTo_eq (i : Fin 8) (dest : StreamState) (s : State) :
    s.flushTo i dest = { s with
      streams := s.streams.set i ((s.stream i).flushed dest)
      pool := s.pool.release ((s.stream i).slotCells ++ (s.stream i).holderCells)
      requests := s.requests.filter (fun j => j != i)
      channels := map8 (Channel.moveReaders i (fun _ => .fresh)) s.channels } := by
  have hrecord : ((s.setStream i (s.stream i).vacated).release (s.stream i).slotCells).stream i
      = (s.stream i).vacated := s.setStream_stream_self i _
  rw [State.flushTo, State.emptySlots_all, State.emptyHolder_eq, hrecord, Stream.vacated_holderCells,
    Pool.release_append]
  simp [State.stream, State.setStream, State.release, State.dropRequest, State.freshReaders, State.moveReaders,
    Stream.vacated, Stream.flushed]

theorem State.flushTo_bump (i : Fin 8) (dest : StreamState) (c : PartCounter) (s : State) :
    (s.bump c).flushTo i dest = (s.flushTo i dest).bump c := by
  rw [State.flushTo_eq, State.flushTo_eq]
  rfl

theorem State.flushTo_stream_eq (i : Fin 8) (dest : StreamState) (s : State) :
    (s.flushTo i dest).stream i = (s.stream i).flushed dest := by
  rw [State.flushTo_eq]
  exact s.setStream_stream_self i _

theorem State.flushTo_channel (i : Fin 8) (dest : StreamState) (s : State) (c : Fin 8) :
    (s.flushTo i dest).channel c = (s.channel c).moveReaders i (fun _ => .fresh) := by
  rw [State.flushTo_eq]
  exact map8_get _ s.channels c

/-! ## The rows of OPEN_STREAM and CLOSE_STREAM (R46, R47) -/

section

variable {h : DirHeader} {index : Byte} {s : State} (hnode : s.ident.node ≠ 0)
include hnode

theorem exec_openStream_of_badIndex (hindex : 8 ≤ index.toNat) :
    exec (.openStream h index) s = .next (itemRefused h .badIndex s) :=
  exec_itemRow_of_error (it := .openStream index) hnode rfl nofun (by
    simp [applyItem, applyOpenStream, index8_eq_none hindex])

theorem exec_closeStream_of_badIndex (hindex : 8 ≤ index.toNat) :
    exec (.closeStream h index) s = .next (itemRefused h .badIndex s) :=
  exec_itemRow_of_error (it := .closeStream index) hnode rfl nofun (by
    simp [applyItem, applyCloseStream, index8_eq_none hindex])

variable {i : Fin 8} (hindex : index.toNat = i.val)
include hindex

/-- OPEN_STREAM is refused outside LOADED, and for a local-play stream in STANDBY (R46). -/
theorem exec_openStream_of_wrongState
    (hstate : (s.stream i).state ≠ .loaded ∨ (s.stream i).localPlay = true ∧ s.ident.mode = .standby) :
    exec (.openStream h index) s = .next (itemRefused h .wrongState s) := by
  refine exec_itemRow_of_error (it := .openStream index) hnode rfl nofun ?_
  rw [applyItem, applyOpenStream, index8_eq_some hindex]
  by_cases hloaded : (s.stream i).state = .loaded
  · obtain ⟨hplay, hmode⟩ := hstate.resolve_left (not_not.mpr hloaded)
    simp [hloaded, hplay, hmode]
  · simp [hloaded]

theorem exec_openStream_of_loaded (hstate : (s.stream i).state = .loaded)
    (hmode : ¬((s.stream i).localPlay = true ∧ s.ident.mode = .standby)) :
    exec (.openStream h index) s = .next (itemDone h (s.setStream i { s.stream i with
      state := .listening, anchor := none, mismatchRun := 0, missedRun := 0 })) := by
  refine exec_itemRow_of_ok (it := .openStream index) hnode rfl nofun ?_
  simp [applyItem, applyOpenStream, index8_eq_some hindex, hstate, hmode, State.bump_setStream]

theorem exec_closeStream_of_wrongState (hstate : (s.stream i).state = .idle ∨ (s.stream i).state = .loaded) :
    exec (.closeStream h index) s = .next (itemRefused h .wrongState s) := by
  refine exec_itemRow_of_error (it := .closeStream index) hnode rfl nofun ?_
  rcases hstate with hstate | hstate <;>
    simp [applyItem, applyCloseStream, index8_eq_some hindex, hstate]

/-- CLOSE_STREAM in any other state is the flush of R60, to LOADED (R47). -/
theorem exec_closeStream_of_open (hidle : (s.stream i).state ≠ .idle) (hloaded : (s.stream i).state ≠ .loaded) :
    exec (.closeStream h index) s = .next (itemDone h (s.flushTo i .loaded)) := by
  refine exec_itemRow_of_ok (it := .closeStream index) hnode rfl nofun ?_
  rw [applyItem, applyCloseStream, index8_eq_some hindex, ← State.flushTo_bump]
  cases hstate : (s.stream i).state
  case idle => exact absurd hstate hidle
  case loaded => exact absurd hstate hloaded
  all_goals simp only [State.bump_stream, hstate]

end

/-! ## The obligation -/

/-- Settles O32: OPEN_STREAM by its two refusals and its one effect; CLOSE_STREAM by `State.flushTo_eq`, which says all
that its flush changes. -/
theorem openAndCloseStreamResult : Obligations.OpenAndCloseStreamResult := by
  intro h index s hnode
  refine ⟨fun hindex => ⟨exec_openStream_of_badIndex hnode hindex, exec_closeStream_of_badIndex hnode hindex⟩,
    fun i hindex => ⟨?_, exec_closeStream_of_wrongState hnode hindex, fun hidle hloaded => ?_⟩⟩
  · split_ifs with hrefused
    · exact exec_openStream_of_wrongState hnode hindex hrefused
    · obtain ⟨hloaded, hmode⟩ := not_or.mp hrefused
      exact exec_openStream_of_loaded hnode hindex (not_not.mp hloaded) hmode
  · refine ⟨_, exec_closeStream_of_open hnode hindex hidle hloaded, State.flushTo_stream_eq i _ s,
      fun j hj => State.flushTo_stream_ne hj _ s, ?_, State.flushTo_channel i _ s, ?_, ?_⟩
    all_goals rw [State.flushTo_eq]
    rfl

end Sys2Proof.Machine
end

section
/-! PROOFS. SET_GAIN and SET_MUTE (R129, R130): the channels of a mask changed, each level or the mute flag. -/

namespace Sys2Proof.Machine

/-! ## What the items set -/

theorem State.bump_updateChannels (c : PartCounter) (s : State) (mask : BitVec 8) (g : Channel → Channel) :
    (s.bump c).updateChannels mask g = (s.updateChannels mask g).bump c := rfl

/-- 0xFFFF leaves a level, and any other value is bounded above alone (R129). -/
theorem newLevel_eq (old hi : Nat) (v : BitVec 16) :
    newLevel old v hi = if v = 0xFFFF then old else min hi v.toNat := by
  rw [newLevel, clampNat_eq_max_min (Nat.zero_le hi), Nat.zero_max]

/-! ## The rows of SET_GAIN and SET_MUTE (R129, R130) -/

section

variable {h : DirHeader} {s : State} (hnode : s.ident.node ≠ 0) (mask : BitVec 8)
include hnode

theorem exec_setGain (gP gO duck : BitVec 16) :
    exec (.setGain h mask gP gO duck) s = .next (itemDone h (s.updateChannels mask fun ch => { ch with
      gP := newLevel ch.gP gP 32767, gO := newLevel ch.gO gO 32767, duck := newLevel ch.duck duck 16384 })) := by
  refine exec_itemRow_of_ok (it := .setGain mask gP gO duck) hnode rfl nofun ?_
  rw [applyItem, applySetGain, State.bump_updateChannels]

theorem exec_setMute (setting : Byte) :
    exec (.setMute h mask setting) s =
      .next (itemDone h (s.updateChannels mask fun ch => { ch with mute := setting != 0 })) := by
  refine exec_itemRow_of_ok (it := .setMute mask setting) hnode rfl nofun ?_
  rw [applyItem, applySetMute, State.bump_updateChannels]

end

/-! ## The obligation -/

/-- Settles O35: each row is applied at once whatever the mode, and `State.updateChannels_channel` says what it makes of
each channel. -/
theorem setGainAndSetMuteResult : Obligations.SetGainAndSetMuteResult := by
  intro h mask s hnode
  refine ⟨fun gP gO duck => ⟨_, exec_setGain hnode mask gP gO duck, fun c => ?_, rfl⟩,
    fun setting => ⟨_, exec_setMute hnode mask setting, fun c => ?_, rfl⟩⟩
  · simp only [State.updateChannels_channel, newLevel_eq]
  · have hmute : (setting != 0) = decide (setting ≠ 0) := by
      rw [bne, decide_not, beq_eq_decide]
    rw [State.updateChannels_channel, hmute]

end Sys2Proof.Machine
end

section
/-! PROOFS. SET_CLASS_MAP, SET_SOURCE_ENTRY and SET_PRIORITY_WEIGHTS (R146): values clamped to 0 .. 7, and the entry that
holds a node. -/

namespace Sys2Proof.Machine

/-! ## What the items set -/

theorem State.bump_setRelay (c : PartCounter) (s : State) (r : Relay) :
    (s.bump c).setRelay r = (s.setRelay r).bump c := rfl

/-- The values of R146 are bounded above alone. -/
theorem clampNat_zero_seven (x : Nat) : clampNat x 0 7 = min 7 x := by
  rw [clampNat_eq_max_min (Nat.zero_le 7), Nat.zero_max]

/-- The entry being set does not count against itself (R146). -/
theorem Relay.holdsNode_iff {r : Relay} {i : Fin 16} {node : NodeId} :
    r.holdsNode i.val node = true ↔ ∃ j : Fin 16, j ≠ i ∧ r.sources[j].map Prod.fst = some node := by
  have hentry (e : Option (NodeId × Nat)) :
      (match e with | some (n, _) => n == node | none => false) = true ↔ e.map Prod.fst = some node := by
    cases e <;> simp
  rw [Relay.holdsNode, List.any_eq_true]
  constructor
  · rintro ⟨⟨e, k⟩, hmem, hholds⟩
    obtain ⟨hk, he⟩ := List.getElem?_eq_some_iff.mp (List.mk_mem_zipIdx_iff_getElem?.mp hmem)
    obtain ⟨hne, hnode⟩ := Bool.and_eq_true_iff.mp hholds
    refine ⟨⟨k, by simpa using hk⟩, fun h => bne_iff_ne.mp hne (congrArg Fin.val h), ?_⟩
    have h := (hentry e).mp hnode
    rw [← he] at h
    exact h
  · rintro ⟨j, hj, hnode⟩
    refine ⟨(r.sources[j], j.val), List.mk_mem_zipIdx_iff_getElem?.mpr (by simp), ?_⟩
    exact Bool.and_eq_true_iff.mpr ⟨bne_iff_ne.mpr (Fin.val_ne_of_ne hj), (hentry _).mpr hnode⟩

/-- SET_SOURCE_ENTRY with an index below 16: the tests of R146 in their order, and the entry set. -/
theorem applySetSourceEntry_eq {index : Byte} {i : Fin 16} (node : NodeId) (prio : Byte) (s : State)
    (hindex : index.toNat = i.val) :
    applySetSourceEntry index node prio s =
      if 0xFF00 ≤ node.toNat then .error .badValue
      else if node ≠ 0 ∧ s.relay.holdsNode i.val node = true then .error .duplicateSource
      else .ok (s.setRelay { s.relay with
        sources := s.relay.sources.set i (if node = 0 then none else some (node, clampNat prio.toNat 0 7)) }) := by
  rw [applySetSourceEntry, dif_pos (hindex ▸ i.isLt)]
  simp only [hindex, Bool.and_eq_true, bne_iff_ne]

/-! ## The rows (R146) -/

section

variable {h : DirHeader} {s : State} (hnode : s.ident.node ≠ 0)
include hnode

theorem exec_setClassMap (prios : Vector Byte 8) :
    exec (.setClassMap h prios) s = .next (itemDone h (s.setRelay { s.relay with
      classMap := map8 (fun b : Byte => clampNat b.toNat 0 7) prios })) :=
  exec_itemRow_of_ok (it := .setClassMap prios) hnode rfl nofun rfl

theorem exec_setPriorityWeights (stream cls source : Byte) :
    exec (.setPriorityWeights h stream cls source) s = .next (itemDone h (s.setRelay { s.relay with
      wStream := clampNat stream.toNat 0 7, wClass := clampNat cls.toNat 0 7, wSource := clampNat source.toNat 0 7 })) :=
  exec_itemRow_of_ok (it := .setPriorityWeights stream cls source) hnode rfl nofun rfl

variable {index : Byte} {node : NodeId} {prio : Byte}

theorem exec_setSourceEntry_of_badIndex (hindex : 16 ≤ index.toNat) :
    exec (.setSourceEntry h index node prio) s = .next (itemRefused h .badIndex s) :=
  exec_itemRow_of_error (it := .setSourceEntry index node prio) hnode rfl nofun (dif_neg (not_lt.mpr hindex))

/-- Counting the directive bears on no test of R146, so the row ends as the tests on the state before it say. -/
theorem exec_setSourceEntry {i : Fin 16} (hindex : index.toNat = i.val) :
    exec (.setSourceEntry h index node prio) s = .next (
      if 0xFF00 ≤ node.toNat then itemRefused h .badValue s
      else if node ≠ 0 ∧ s.relay.holdsNode i.val node = true then itemRefused h .duplicateSource s
      else itemDone h (s.setRelay { s.relay with
        sources := s.relay.sources.set i (if node = 0 then none else some (node, clampNat prio.toNat 0 7)) })) := by
  have happly := applySetSourceEntry_eq node prio (s.bump .directivesTaken) hindex
  by_cases hgroup : 0xFF00 ≤ node.toNat
  · rw [if_pos hgroup]
    exact exec_itemRow_of_error (it := .setSourceEntry index node prio) hnode rfl nofun (happly.trans (if_pos hgroup))
  rw [if_neg hgroup] at happly ⊢
  by_cases hheld : node ≠ 0 ∧ s.relay.holdsNode i.val node = true
  · rw [if_pos hheld]
    exact exec_itemRow_of_error (it := .setSourceEntry index node prio) hnode rfl nofun (happly.trans (if_pos hheld))
  · rw [if_neg hheld]
    exact exec_itemRow_of_ok (it := .setSourceEntry index node prio) hnode rfl nofun (happly.trans (if_neg hheld))

end

/-! ## The obligation -/

/-- Settles O37: the class map and the weights are replaced whatever they hold, and SET_SOURCE_ENTRY ends as
`exec_setSourceEntry` says, where `Relay.holdsNode_iff` says when another entry holds the node. -/
theorem relayTablesResult : Obligations.RelayTablesResult := by
  intro h s hnode
  refine ⟨fun prios => ⟨_, exec_setClassMap hnode prios, fun c => ?_, rfl⟩, fun a b c => ?_,
    fun index node prio => ⟨exec_setSourceEntry_of_badIndex hnode, fun i hindex => ?_⟩⟩
  · simp only [State.setRelay_relay]
    rw [map8_get, clampNat_zero_seven]
  · simp only [exec_setPriorityWeights hnode, clampNat_zero_seven, State.setRelay]
  · simp only [exec_setSourceEntry hnode hindex, Relay.holdsNode_iff, clampNat_zero_seven, State.setRelay]

end Sys2Proof.Machine
end

section
/-! PROOFS. SET_QUEUES (R147): the values it refuses, and each queue's new settings. -/

namespace Sys2Proof.Machine

/-! ## The values of the item -/

/-- What R147 asks of a SET_QUEUES body: a body that fails it is refused (`applySetQueues_of_not_inRange`), and one that
meets it is applied (`applySetQueues_of_inRange`). -/
def QueuesInRange (p : QueueParams) : Prop :=
  1 ≤ p.count.toNat ∧ p.count.toNat ≤ 4 ∧ (∀ b ∈ p.map.toList, b.toNat < p.count.toNat)
    ∧ (∀ b ∈ p.types.toList, b.toNat ≤ 1)

theorem queueCount_refused_iff {p : QueueParams} :
    (p.count = 0 || decide (4 < p.count.toNat)) = true ↔ ¬(1 ≤ p.count.toNat ∧ p.count.toNat ≤ 4) := by
  have hzero : p.count = 0 ↔ p.count.toNat = 0 := BitVec.toNat_inj.symm
  simp only [Bool.or_eq_true, decide_eq_true_eq, hzero]
  omega

theorem not_any_decide_iff {α : Type} {l : List α} {P : α → Prop} [DecidablePred P] :
    ¬(l.any fun b => decide (P b)) = true ↔ ∀ b ∈ l, ¬P b := by
  simp only [List.any_eq_true, decide_eq_true_eq, not_exists, not_and]

theorem applySetQueues_of_not_inRange {p : QueueParams} (hp : ¬QueuesInRange p) (s : State) :
    applySetQueues p s = .error .badValue := by
  unfold applySetQueues
  split_ifs with hcount hmap htypes
  case neg =>
    obtain ⟨hlow, hhigh⟩ := not_not.mp (mt queueCount_refused_iff.mpr hcount)
    exact absurd ⟨hlow, hhigh, fun b hb => not_le.mp (not_any_decide_iff.mp hmap b hb),
      fun b hb => not_lt.mp (not_any_decide_iff.mp htypes b hb)⟩ hp
  all_goals rfl

/-- The settings that SET_QUEUES leaves (R147). -/
def Relay.withQueues (r : Relay) (p : QueueParams) : Relay :=
  { r with
    count := p.count.toNat
    map := map8 queueIndex p.map
    queues := tab4 (fun q => (r.queue q).configure p.types[q] p.weights[q]) }

theorem applySetQueues_of_inRange {p : QueueParams} (hp : QueuesInRange p) (s : State) :
    applySetQueues p s = .ok (s.setRelay (s.relay.withQueues p)) := by
  obtain ⟨hlow, hhigh, hmap, htypes⟩ := hp
  have hcount := mt queueCount_refused_iff.mp (not_not.mpr ⟨hlow, hhigh⟩)
  have hmapAny := not_any_decide_iff.mpr fun b hb => not_le.mpr (hmap b hb)
  have htypesAny := not_any_decide_iff.mpr fun b hb => not_lt.mpr (htypes b hb)
  rw [applySetQueues, if_neg hcount, if_neg hmapAny, if_neg htypesAny]
  rfl

theorem queueIndex_val {b : Byte} (hb : b.toNat < 4) : (queueIndex b).val = b.toNat :=
  Nat.mod_eq_of_lt hb

/-- Of the two types, 1 alone is WEIGHTED; its entries stay, and the deficit stays unless the type changes (R147). -/
theorem RelayQueue.configure_eq (rq : RelayQueue) {type : Byte} (htype : type.toNat ≤ 1) (weight : Byte) :
    rq.configure type weight = { rq with
      weighted := decide (type = 1), weight := max 1 (min 127 weight.toNat)
      deficit := if decide (type = 1) = rq.weighted then rq.deficit else 0 } := by
  have hweighted : (type != 0) = decide (type = 1) := by
    rw [Bool.eq_iff_iff, bne_iff_ne, decide_eq_true_iff]
    bv_omega
  rw [RelayQueue.configure, hweighted, clampNat_eq_max_min (by decide)]

/-! ## The row and the obligation -/

section

variable {h : DirHeader} {p : QueueParams} {s : State} (hnode : s.ident.node ≠ 0)
include hnode

theorem exec_setQueues_of_not_inRange (hp : ¬QueuesInRange p) :
    exec (.setQueues h p) s = .next (itemRefused h .badValue s) :=
  exec_itemRow_of_error (it := .setQueues p) hnode rfl nofun (applySetQueues_of_not_inRange hp _)

theorem exec_setQueues_of_inRange (hp : QueuesInRange p) :
    exec (.setQueues h p) s = .next (itemDone h (s.setRelay (s.relay.withQueues p))) :=
  exec_itemRow_of_ok (it := .setQueues p) hnode rfl nofun (applySetQueues_of_inRange hp _)

end

/-- Settles O38: a body out of range is refused, and of one in range `Relay.withQueues` holds the new settings, where every
queue number and every type stands for itself. -/
theorem setQueuesResult : Obligations.SetQueuesResult := by
  intro h p s hnode ok
  refine ⟨exec_setQueues_of_not_inRange hnode, fun hp => ⟨_, exec_setQueues_of_inRange hnode hp, rfl, ?_, ?_, rfl⟩⟩
  all_goals obtain ⟨-, hhigh, hmap, htypes⟩ := hp
  · intro x
    have hx : p.map[x].toNat < p.count.toNat := hmap _ (by simp)
    exact (congrArg Fin.val (map8_get queueIndex p.map x)).trans (queueIndex_val (hx.trans_le hhigh))
  · intro q
    have hq : p.types[q].toNat ≤ 1 := htypes _ (by simp)
    exact (tab4_get _ q).trans (RelayQueue.configure_eq _ hq _)

end Sys2Proof.Machine
end

section
/-! PROOFS. CLEAR_ATTENTION (R175, R176): the part codes and stream codes it clears, and the force-mute flags that go
with LINE (R131). -/

namespace Sys2Proof.Machine

/-! ## The part codes (R175, R176) -/

theorem PartCode.bit_lt (c : PartCode) : c.bit < 9 := by
  cases c <;> decide

theorem PartCode.mask_getLsbD (c d : PartCode) : c.mask.getLsbD d.bit = (d == c) := by
  cases c <;> cases d <;> rfl

theorem PartCode.maskWhen_getLsbD (p : Prop) [Decidable p] (c d : PartCode) :
    (if p then c.mask else 0).getLsbD d.bit = (d == c && decide p) := by
  by_cases hp : p
  · rw [if_pos hp, PartCode.mask_getLsbD, decide_eq_true hp, Bool.and_true]
  · rw [if_neg hp, decide_eq_false hp, Bool.and_false]
    exact BitVec.getLsbD_zero

/-- The three codes that a condition can hold, each with its condition (R174, R175). -/
theorem State.heldCodes_getLsbD (s : State) (c : PartCode) :
    s.heldCodes.getLsbD c.bit = ((c == .timeLost && s.tlu.timeState == .unlocked)
      || (c == .storeLow && decide (s.pool.free < s.pool.lowWater))
      || (c == .line && s.lines.detect == .pattern && s.lines.matchHolds)) := by
  simp only [State.heldCodes, BitVec.getLsbD_or, PartCode.maskWhen_getLsbD, Pool.low, beq_eq_decide, decide_eq_true_eq,
    Bool.decide_and, Bool.decide_eq_true, Bool.and_assoc]

section

variable (named : BitVec 9) (s : State)

/-- The part codes named cleared, held ones apart, and the force-mute flags as they were: the state on which
`State.clearPart` judges whether LINE has gone clear (`State.clearPart_eq`). -/
def State.withPartCleared : State :=
  s.setDu { s.du with attention := s.du.attention &&& ~~~(named &&& ~~~s.heldCodes) }

theorem State.clearPart_eq :
    s.clearPart named = if s.partSet .line && !(s.withPartCleared named).partSet .line then
        { s.withPartCleared named with
          channels := map8 (fun ch : Channel => { ch with forceMute := false }) s.channels }
      else s.withPartCleared named := rfl

/-- Clearing part codes touches the attention set and the channels alone. -/
theorem State.clearPart_frame :
    s.clearPart named = { s with
      du := { s.du with attention := s.du.attention &&& ~~~(named &&& ~~~s.heldCodes) }
      channels := (s.clearPart named).channels } := by
  rw [State.clearPart_eq]
  split_ifs <;> rfl

theorem State.clearPart_stream (i : Fin 8) : (s.clearPart named).stream i = s.stream i := by
  rw [State.clearPart_frame]
  rfl

theorem State.clearPart_partSet (c : PartCode) :
    (s.clearPart named).partSet c = (s.partSet c && !(named.getLsbD c.bit && !s.heldCodes.getLsbD c.bit)) := by
  rw [State.clearPart_frame]
  simp [State.partSet, c.bit_lt]

/-- The force-mute flags clear when LINE goes from set to clear, and stay otherwise (R131). -/
theorem State.clearPart_channel (c : Fin 8) :
    (s.clearPart named).channel c = { s.channel c with
      forceMute := (s.channel c).forceMute && !(s.partSet .line && !(s.clearPart named).partSet .line) } := by
  have hline : (s.clearPart named).partSet .line = (s.withPartCleared named).partSet .line := by
    rw [State.clearPart_frame]
    rfl
  rw [hline, State.clearPart_eq]
  split_ifs with hcleared
  · rw [hcleared, Bool.not_true, Bool.and_false]
    exact map8_get _ s.channels c
  · rw [Bool.eq_false_of_not_eq_true hcleared, Bool.not_false, Bool.and_true]
    rfl

theorem State.bump_clearPart (c : PartCounter) : (s.bump c).clearPart named = (s.clearPart named).bump c := by
  rw [State.clearPart_eq named s, apply_ite (State.bump c)]
  rfl

end

/-! ## The stream codes (R176) -/

theorem StreamCode.bit_lt (c : StreamCode) : c.bit < 5 := by
  cases c <;> decide

theorem Stream.clearCodes_codeSet (named : BitVec 5) (st : Stream) (c : StreamCode) :
    (st.clearCodes named).codeSet c = (st.codeSet c && !named.getLsbD c.bit) := by
  simp [Stream.codeSet, Stream.clearCodes, c.bit_lt]

section

variable (index : Byte) (named : BitVec 5) (s : State)

/-- Clearing stream codes touches the stream records alone. -/
theorem State.clearStreams_frame :
    s.clearStreams index named = { s with streams := (s.clearStreams index named).streams } := by
  unfold State.clearStreams
  split
  · rfl
  · split <;> rfl

theorem State.clearStreams_partSet (c : PartCode) : (s.clearStreams index named).partSet c = s.partSet c := by
  rw [State.clearStreams_frame]
  rfl

theorem State.clearStreams_channel (c : Fin 8) : (s.clearStreams index named).channel c = s.channel c := by
  rw [State.clearStreams_frame]
  rfl

/-- The index byte names every stream by 0xFF, and otherwise the one whose number it is (R176). -/
theorem State.clearStreams_stream (i : Fin 8) :
    (s.clearStreams index named).stream i
      = if index = 0xFF ∨ index.toNat = i.val then (s.stream i).clearCodes named else s.stream i := by
  unfold State.clearStreams
  by_cases hall : index = 0xFF
  · rw [if_pos hall, if_pos (.inl hall)]
    exact map8_get _ s.streams i
  rw [if_neg hall]
  by_cases hindex : index.toNat = i.val
  · rw [if_pos (.inr hindex), index8_eq_some hindex]
    exact s.setStream_stream_self i _
  rw [if_neg (not_or.mpr ⟨hall, hindex⟩), index8]
  split_ifs with hlt
  · exact s.setStream_stream_ne _ i _ fun hi => hindex (congrArg Fin.val hi).symm
  · rfl

theorem State.clearStreams_codeSet (i : Fin 8) (c : StreamCode) :
    ((s.clearStreams index named).stream i).codeSet c = ((s.stream i).codeSet c
      && !(named.getLsbD c.bit && (index == 0xFF || index.toNat == i.val))) := by
  rw [State.clearStreams_stream]
  split_ifs with hnamed
  · have hnames : (index == 0xFF || index.toNat == i.val) = true := by simpa using hnamed
    rw [Stream.clearCodes_codeSet, hnames, Bool.and_true]
  · have hnames : (index == 0xFF || index.toNat == i.val) = false := by simpa using hnamed
    rw [hnames, Bool.and_false, Bool.not_false, Bool.and_true]

theorem State.clearStreams_stream_frame (i : Fin 8) :
    (s.clearStreams index named).stream i
      = { s.stream i with attention := ((s.clearStreams index named).stream i).attention } := by
  rw [State.clearStreams_stream]
  split_ifs <;> rfl

theorem State.bump_clearStreams (c : PartCounter) :
    (s.bump c).clearStreams index named = (s.clearStreams index named).bump c := by
  unfold State.clearStreams
  split
  · rfl
  · split <;> rfl

end

/-! ## The row and the obligation -/

section

variable {h : DirHeader} {partMask : BitVec 16} {index streamMask : Byte} {s : State} (hnode : s.ident.node ≠ 0)
include hnode

theorem exec_clearAttention_of_badIndex (hindex : 8 ≤ index.toNat) (hall : index ≠ 0xFF) :
    exec (.clearAttention h partMask index streamMask) s = .next (itemRefused h .badIndex s) :=
  exec_itemRow_of_error (it := .clearAttention partMask index streamMask) hnode rfl nofun
    (if_pos (by rw [index8_eq_none hindex, bne_iff_ne.mpr hall]; rfl))

theorem exec_clearAttention (hindex : index.toNat < 8 ∨ index = 0xFF) :
    exec (.clearAttention h partMask index streamMask) s = .next (itemDone h
      ((s.clearPart (partMask.setWidth 9)).clearStreams index (streamMask.setWidth 5))) := by
  refine exec_itemRow_of_ok (it := .clearAttention partMask index streamMask) hnode rfl nofun ?_
  have hnamed : ¬(index != 0xFF && (index8 index).isNone) = true := by
    rcases hindex with hlt | rfl
    · simp [index8, hlt]
    · simp
  rw [applyItem, applyClearAttention, if_neg hnamed, State.bump_clearPart, State.bump_clearStreams]

end

/-- Settles O40: an index byte that names no stream is refused, and otherwise `State.clearPart` says what becomes of the
part codes and the force-mute flags, and `State.clearStreams` what becomes of the stream codes. -/
theorem clearAttentionResult : Obligations.ClearAttentionResult := by
  intro h partMask index streamMask s hnode
  have hbit (c : PartCode) : (partMask.setWidth 9).getLsbD c.bit = partMask.getLsbD c.bit := by
    simp [c.bit_lt]
  have hstreamBit (c : StreamCode) : (streamMask.setWidth 5).getLsbD c.bit = streamMask.getLsbD c.bit := by
    simp [c.bit_lt]
  refine ⟨exec_clearAttention_of_badIndex hnode, fun hindex => ⟨_, exec_clearAttention hnode hindex,
    fun c => ?_, fun i c => ?_, fun i => ?_, fun c => ?_, ?_⟩⟩
  · rw [State.clearStreams_partSet, State.clearPart_partSet, State.heldCodes_getLsbD, hbit]
  · rw [State.clearStreams_codeSet, State.clearPart_stream, hstreamBit]
  · have hframe := State.clearStreams_stream_frame index (streamMask.setWidth 5) (s.clearPart (partMask.setWidth 9)) i
    rwa [State.clearPart_stream] at hframe
  · rw [State.clearStreams_partSet, State.clearStreams_channel]
    exact State.clearPart_channel _ s c
  · rw [State.clearStreams_frame, State.clearPart_frame]

end Sys2Proof.Machine
end
